-- ==== Sys2Proof/Word.lean ====
section
/-! DEFINITION. The bit vectors of spec/00_scope.md R7: bytes, half-words and words, all unsigned, bit 0 the least significant. -/

namespace Sys2Proof

/-- A byte: "8 bits, an unsigned integer in `0..255`" (R7). -/
abbrev Byte := BitVec 8

/-- A half-word or Word16 (R60). -/
abbrev Half := BitVec 16

/-- A Word32: an assembled two-packet field, a frame register, a host argument (R30, R61, R90). -/
abbrev Word := BitVec 32

end Sys2Proof
end

