-- ==== Sys2Proof/Syntax.lean ====
section
/-! DEFINITION. The block's instruction set: the eighteen host operations of spec/opcode_table.json and
spec/30_encoding.md R90, the fifteen bus commands of R84, and the pair of values by which the host names an operation. -/

namespace Sys2Proof

/-- The names of the eighteen operations, in the order of their `OPSEL` codes (R90). -/
inductive Operation where
  | init | startMeas | stopMeas | readDataReady | readMeas | sleep | wakeup | startFanClean | readAutoclean
  | writeAutoclean | readProductType | readSerial | readFwVersion | readStatus | clearStatus | reset | setWindow | deviceInfo
deriving DecidableEq, Repr

/-- The fifteen bus commands: "The set is closed: the block can send no other opcode" (R84). -/
inductive BusCommand where
  | startMeas | stopMeas | readDataReady | readMeas | sleep | wakeup | startFanClean | readAutoclean
  | writeAutoclean | readProductType | readSerial | readFwVersion | readStatus | clearStatus | reset
deriving DecidableEq, Repr

/-- An instruction: an operation with the argument it uses. Only `INIT`, `SET_WINDOW` and `WRITE_AUTOCLEAN` use `ARG`
(R34); an `ARG` given to another operation has no effect (R91), so the others carry none. A window size is a count, and
`WellFormed` says that it fits the 32 bits of `ARG`. -/
inductive Instr where
  /-- `INIT n` (R211). -/
  | init (n : Nat)
  /-- `START_MEAS` (R212). -/
  | startMeas
  /-- `STOP_MEAS` (R213). -/
  | stopMeas
  /-- `READ_DATA_READY` (R214). -/
  | readDataReady
  /-- `READ_MEAS` (R215). -/
  | readMeas
  /-- `SLEEP` (R216). -/
  | sleep
  /-- `WAKEUP` (R217). -/
  | wakeup
  /-- `START_FAN_CLEAN` (R218). -/
  | startFanClean
  /-- `READ_AUTOCLEAN` (R219). -/
  | readAutoclean
  /-- `WRITE_AUTOCLEAN v` (R220). -/
  | writeAutoclean (v : Word)
  /-- `READ_PRODUCT_TYPE` (R221). -/
  | readProductType
  /-- `READ_SERIAL` (R222). -/
  | readSerial
  /-- `READ_FW_VERSION` (R223). -/
  | readFwVersion
  /-- `READ_STATUS` (R224). -/
  | readStatus
  /-- `CLEAR_STATUS` (R225). -/
  | clearStatus
  /-- `RESET` (R226). -/
  | reset
  /-- `SET_WINDOW n` (R227). -/
  | setWindow (n : Nat)
  /-- `DEVICE_INFO` (R228). -/
  | deviceInfo
deriving DecidableEq, Repr

/-- How the host names an operation: "by `OPSEL`, a 5-bit unsigned code, and supplies `ARG`, a 32-bit unsigned value" (R90). -/
structure Request where
  opsel : BitVec 5
  arg : Word
deriving DecidableEq, Repr

end Sys2Proof
end

