-- ==== Sys2Proof/Config.lean ====
section
/-! DEFINITION. What an implementation fixes and what the spec leaves free: the parameters of spec/00_scope.md R6, the
outcomes of the Transport (spec/20_memory.md R51 to R58), and the free values, which are opaque constants with no body. -/

namespace Sys2Proof

/-- An ordered pair of bytes, the first one first on the wire: an opcode (R84) or `START_ARG` (R6). -/
structure BytePair where
  first : Byte
  second : Byte
deriving DecidableEq, Repr, Inhabited

/-- One value for each of the fifteen bus commands: the families `OPC_<CMD>` and `SETTLE_<CMD>` of R6. -/
structure PerCommand (α : Type) where
  startMeas : α
  stopMeas : α
  readDataReady : α
  readMeas : α
  sleep : α
  wakeup : α
  startFanClean : α
  readAutoclean : α
  writeAutoclean : α
  readProductType : α
  readSerial : α
  readFwVersion : α
  readStatus : α
  clearStatus : α
  reset : α
deriving DecidableEq, Repr, Inhabited

/-- `MEAN_ARITH` (R6, R196, decision D8): the default, or any other function, which `Config.customMean` leaves
uninterpreted. -/
inductive MeanArith where
  /-- "IEEE-754 binary32 addition, round to nearest, ties to even", summed from `+0.0` oldest first, then one division (R196). -/
  | binary32
  /-- Another arithmetic, of which nothing is known. -/
  | custom (id : Nat)
deriving DecidableEq, Repr, Inhabited

/-- The OPEN parameters of R6: "the model takes it as an argument". Fixed for the life of the block (R35). -/
structure Params where
  /-- `DEV_ADDR`, the "fixed single-byte device address" (R50). -/
  devAddr : Byte
  /-- `OPC_<CMD>` (R84, R85). -/
  opcode : PerCommand BytePair
  /-- `START_ARG`, the argument half-word of `START_MEAS`. -/
  startArg : BytePair
  /-- `SETTLE_<CMD>`, "a non-negative duration in an unspecified unit". DESIGN CHOICE (entry 13): a natural number of that unit; safe. -/
  settle : PerCommand Nat
  /-- `NMAX - 1`: the type says `1 <= NMAX <= 2^24` (R6), so that no parameter record breaks it. -/
  nmaxMinusOne : Fin 16777216
  /-- `ST_BIT_SPEED`, a position in `0..31` (R235). -/
  stBitSpeed : Fin 32
  /-- `ST_BIT_LASER`. -/
  stBitLaser : Fin 32
  /-- `ST_BIT_FAN`. -/
  stBitFan : Fin 32
  /-- `MEAN_ARITH` (R196). -/
  meanArith : MeanArith
deriving DecidableEq, Repr, Inhabited

/-- Outcome of `MemWrite` (R51): "There is no outcome 'some bytes sent'". -/
inductive WriteOutcome where
  | ok | ioFail
deriving DecidableEq, Repr, Inhabited

/-- Outcome of `MemRead` (R52): a byte list of any length, or `io_fail`. -/
inductive ReadOutcome where
  | bytes (s : List Byte)
  | ioFail
deriving DecidableEq, Repr, Inhabited

/-- Outcome of `BusReset` (R54). -/
inductive ResetOutcome where
  | ok | fail
deriving DecidableEq, Repr, Inhabited

/-- Outcome of `Probe` (R55). -/
inductive ProbeOutcome where
  | present | absent
deriving DecidableEq, Repr, Inhabited

/-- A NaN word: sign, and fraction minus one, so that the fraction is not zero (R161). -/
structure NaNWord where
  sign : Bool
  fractionMinusOne : Fin 8388607
deriving DecidableEq, Repr, Inhabited

/-- The parameters of the block this model is of (R6). No body: no proof can see a value (entry 4). -/
opaque Config.params : Params

/-- The outcome of the `k`-th `MemWrite` whose answer no fixed list holds: "under no law in this spec" (R58). -/
opaque Config.freeWrite : Nat → WriteOutcome

/-- The outcome of the `k`-th `MemRead` whose answer no fixed list holds (R58). -/
opaque Config.freeRead : Nat → ReadOutcome

/-- The outcome of the `k`-th `BusReset` whose answer no fixed list holds (R58). -/
opaque Config.freeReset : Nat → ResetOutcome

/-- The outcome of the `k`-th `Probe` whose answer no fixed list holds (R58). -/
opaque Config.freeProbe : Nat → ProbeOutcome

/-- The NaN word that the binary32 mean of a lane yields: "any NaN word" (R204, U8), a function of the lane's words (P1 of R196). -/
opaque Config.meanNaN : List Word → NaNWord

/-- The arithmetic `MeanArith.custom id` (R196, D8): a function of the lane's words (P1), otherwise uninterpreted. -/
opaque Config.customMean : Nat → List Word → Word

/-- The default opcodes, address, start argument and status bits of R6 and R85. PRESUMED (entry 20): every value is marked
`[from general knowledge, not in source]` in the spec; the model never uses this record, only hypotheses and tests name it, so
it is safe. The settle delays and `NMAX` have no default. -/
def Params.generalKnowledge (settle : PerCommand Nat) (nmaxMinusOne : Fin 16777216) (mean : MeanArith) : Params where
  devAddr := 0x69
  opcode :=
    { startMeas := ⟨0x00, 0x10⟩, stopMeas := ⟨0x01, 0x04⟩, readDataReady := ⟨0x02, 0x02⟩, readMeas := ⟨0x03, 0x00⟩,
      sleep := ⟨0x10, 0x01⟩, wakeup := ⟨0x11, 0x03⟩, startFanClean := ⟨0x56, 0x07⟩, readAutoclean := ⟨0x80, 0x04⟩,
      writeAutoclean := ⟨0x80, 0x04⟩, readProductType := ⟨0xD0, 0x02⟩, readSerial := ⟨0xD0, 0x33⟩,
      readFwVersion := ⟨0xD1, 0x00⟩, readStatus := ⟨0xD2, 0x06⟩, clearStatus := ⟨0xD2, 0x10⟩, reset := ⟨0xD3, 0x04⟩ }
  startArg := ⟨0x03, 0x00⟩
  settle := settle
  nmaxMinusOne := nmaxMinusOne
  stBitSpeed := 21
  stBitLaser := 5
  stBitFan := 4
  meanArith := mean

end Sys2Proof
end

