-- ==== Sys2Proof/Machine/State.lean ====
section
/-! DEFINITION. The block's state between operations, the tuple of spec/10_state.md R20, and beside it what the host and the
Transport put in and get out (the model's own fields, entries 1, 4, 6, 7). Plain data. -/

namespace Sys2Proof.Machine

/-- `LIFE`, the life-cycle state (R21). -/
inductive Life where
  | uninit | ready | fatal
deriving DecidableEq, Repr

/-- `SS`, the session state (R22). -/
inductive Session where
  | idle | measuring | sleeping
deriving DecidableEq, Repr

/-- Three section flags: mass density, particle count, particle size, "in that order" (R24). -/
structure Sections where
  mass : Bool
  count : Bool
  size : Bool
deriving DecidableEq, Repr

/-- A frame: "the record `{ F[0..9], V[0..2] }`: ten 32-bit words and three validity bits" (R30). -/
structure Frame where
  f : Vector Word 10
  v : Sections
deriving DecidableEq, Repr

/-- Which half of a bus command a Transport failure met: `during = write` or `read` (R56, R57). -/
inductive BusPhase where
  | write | read
deriving DecidableEq, Repr

/-- The information of `BusResetFatal`: "`during`, or `sticky`" (R250). -/
inductive FatalInfo where
  | during (p : BusPhase)
  | sticky
deriving DecidableEq, Repr

/-- The state named by `IllegalStateError`: a session state, or the life-cycle state for `INIT` (R210, R229). -/
inductive GuardState where
  | life (l : Life)
  | session (ss : Session)
deriving DecidableEq, Repr

/-- The errors an operation can report, each with the information R250 records. -/
inductive Error where
  | connection
  | transport (during : BusPhase)
  | lengthMismatch (expected got : Nat)
  | checksumInput (len : Nat)
  | illegalState (op : Operation) (state : GuardState)
  | windowConfig (n : Nat)
  | busResetFatal (info : FatalInfo)
  | unknownOp (opsel : BitVec 5)
  | notReady (opsel : BitVec 5)
deriving DecidableEq, Repr

/-- The twelve codes of R250, by name. -/
inductive ErrorCode where
  | none | connection | transport | checksum | lengthMismatch | notMeasuring | checksumInput | illegalState
  | windowConfig | busResetFatal | unknownOp | notReady
deriving DecidableEq, Repr

/-- The reason of an empty result (R9). -/
inductive NoFrameReason where
  | notMeasuring | rejected | filling
deriving DecidableEq, Repr

/-- The three decoded status flags (R235). -/
structure StatusFlags where
  speed : Bool
  laser : Bool
  fan : Bool
deriving DecidableEq, Repr

/-- The record of `DEVICE_INFO` (R228); each item that was read carries its validity. -/
structure InfoRecord where
  productType : Bool × List Byte
  serial : Bool × List Byte
  firmware : Bool × Half
  autocleanSeconds : Bool × Word
  status : Bool × Word
  statusFlags : StatusFlags
  measuring : Bool
  errCum : BitVec 32
  errLast : BitVec 32
  valid : Sections
  winN : Nat
deriving DecidableEq, Repr

/-- The results of R9: "Every operation returns exactly one". -/
inductive Result where
  | done
  | frameOut (frame : Frame)
  | noFrame (reason : NoFrameReason)
  | word16Out (valid : Bool) (w : Half)
  | word32Out (valid : Bool) (w : Word)
  | bytesOut (valid : Bool) (s : List Byte)
  | infoOut (record : InfoRecord)
  | err (e : Error)
deriving DecidableEq, Repr

/-- One Transport call with its outcome (R51 to R55). -/
inductive Call where
  | memWrite (addr : Byte) (bytes : List Byte) (outcome : WriteOutcome)
  | memRead (addr : Byte) (n : Nat) (outcome : ReadOutcome)
  | settle (d : Nat)
  | busReset (outcome : ResetOutcome)
  | probe (addr : Byte) (outcome : ProbeOutcome)
deriving DecidableEq, Repr

/-- The answers of the environment to one kind of call: those already fixed, first first, then free values, of which
`drawn` have been used. -/
structure Answers (α : Type) where
  fixed : List α
  drawn : Nat
deriving DecidableEq, Repr

/-- The environment as the block meets it: the answers to come (R58: "Outcomes are inputs") and the record of the calls
made (R286: part of "the observation of a run"). -/
structure Env where
  writes : Answers WriteOutcome
  reads : Answers ReadOutcome
  resets : Answers ResetOutcome
  probes : Answers ProbeOutcome
  calls : List Call
deriving DecidableEq, Repr

/-- A move of the host (R287). -/
inductive HostMove where
  /-- "issue any `OPSEL` in `0..31` with any 32-bit `ARG`". -/
  | operation (r : Request)
  /-- "apply a hardware reset (rule R280)". -/
  | hardwareReset
  /-- A hardware reset or loss of power in the middle of an operation, after `calls` of its Transport calls (R287, R296). -/
  | interrupted (r : Request) (calls : Nat)
deriving DecidableEq, Repr

/-- The block's state (R20), and the model's own fields. -/
structure State where
  /-- The parameters of R6; no step changes them (entry 4). -/
  params : Params
  /-- `LIFE` (R21). -/
  life : Life
  /-- `SS` (R22). -/
  ss : Session
  /-- `FAN_ACTIVE` (R23). -/
  fanActive : Bool
  /-- `VALID[0..2]` (R24). -/
  valid : Sections
  /-- `ERR_CUM`, `CW = 32` bits (R25). -/
  errCum : BitVec 32
  /-- `ERR_LAST`, `CW = 32` bits (R26). -/
  errLast : BitVec 32
  /-- `WIN_N` (R28). -/
  winN : Nat
  /-- `WBUF[0 .. WIN_LEN-1]`, oldest first; `WIN_LEN` is its length (R29: "A model should hold `WBUF` as a list"). -/
  wbuf : List Frame
  /-- The Transport and the device behind it (entries 6, 7). -/
  env : Env
  /-- The moves the host makes next (entry 1). -/
  moves : List HostMove
  /-- The results returned so far, in order (entry 7). -/
  results : List Result
deriving DecidableEq, Repr

/-- What an operation's body comes to: it went on with a value, or it was ended by a `raise` (R8, R262). -/
inductive Ran (α : Type) where
  | done (a : α) (s : State)
  | raised (e : Error) (s : State)
deriving DecidableEq, Repr

/-- Why the machine stops with a fault: never. "Nothing in this block is `stuck`: every operation ends" (93, part 1), every
error is a result (R262), and `LIFE = Fatal` is a state (R259). Safe: no behaviour is cut off (entry 15). -/
inductive Fault
deriving DecidableEq, Repr

/-- Why an instruction has no meaning. -/
inductive Refusal where
  /-- Raised by an arm of `exec` whose instruction has no meaning yet; no arm is left so. Safe: the machine stops. -/
  | notModelled (mnemonic : String)
deriving DecidableEq, Repr

/-- The environment with no answer fixed, no free answer used and no call made. -/
def Env.fresh : Env := ⟨⟨[], 0⟩, ⟨[], 0⟩, ⟨[], 0⟩, ⟨[], 0⟩, []⟩

/-- The machine right after a hardware reset: the values of R37, `WBUF = []` (R281). The model's own fields: the opaque
parameters, no move pending, nothing answered, nothing returned (DESIGN CHOICE, entries 1, 4, 6, 7; no statement rests on them). -/
def State.reset : State where
  params := Config.params
  life := .uninit
  ss := .idle
  fanActive := false
  valid := ⟨false, false, false⟩
  errCum := 0
  errLast := 0
  winN := 1
  wbuf := []
  env := Env.fresh
  moves := []
  results := []

end Sys2Proof.Machine
end

