-- ==== Sys2Proof/Machine/Float32.lean ====
section
/-! DEFINITION. The Float32 decoder (spec/43_float_decoder.md R160 to R171) and the binary32 arithmetic of the default mean
(spec/45_rolling_aggregator.md R196, R204). Every finite binary32 value is a whole number of units of `2^(-149)`, so the
arithmetic is exact on naturals and is rounded once at the end. PRESUMED (entry 19): the IEEE-754 rules the spec invokes by
name (rounding, signs of zeros, infinities, NaN); unsafe where a claim rests on them. -/

namespace Sys2Proof.Machine

/-- `F32Class` (R161). -/
inductive FloatClass where
  | zero | subnormal | normal | infinity | nan
deriving DecidableEq, Repr

/-- A value of R162: "the extended reals with signed zeros, or `NaN`". A finite value is `± units * 2^(-149)`; with
`units = 0` it is a signed zero. -/
inductive FloatValue where
  | nan
  | infinity (negative : Bool)
  | finite (negative : Bool) (units : Nat)
deriving DecidableEq, Repr

/-- `s = w[31]` (R160). -/
def floatSign (w : Word) : Bool := w.getLsbD 31

/-- `e = w[30:23]` (R160). -/
def floatExponent (w : Word) : Nat := (w.extractLsb' 23 8).toNat

/-- `f = w[22:0]` (R160). -/
def floatFraction (w : Word) : Nat := (w.extractLsb' 0 23).toNat

/-- `F32Class(w)`, "decided by `e` and `f` alone" (R161). -/
def f32Class (w : Word) : FloatClass :=
  if floatExponent w = 0 then
    if floatFraction w = 0 then .zero else .subnormal
  else if floatExponent w = 255 then
    if floatFraction w = 0 then .infinity else .nan
  else .normal

/-- `F32Val(w)` (R162). A normal word's `(1 + f/2^23) * 2^(e-127)` is `(2^23 + f) * 2^(e-1)` units. -/
def f32Val (w : Word) : FloatValue :=
  match f32Class w with
  | .zero => .finite (floatSign w) 0
  | .subnormal => .finite (floatSign w) (floatFraction w)
  | .normal => .finite (floatSign w) ((2 ^ 23 + floatFraction w) * 2 ^ (floatExponent w - 1))
  | .infinity => .infinity (floatSign w)
  | .nan => .nan

/-- Equality of values: "a NaN compares unequal to every value including itself" (R165), and the two zeros, "different
Float32 values with the same magnitude" (R163), are equal as values (R169). -/
def floatEq : FloatValue → FloatValue → Bool
  | .nan, _ => false
  | .infinity _, .nan => false
  | .infinity a, .infinity b => a == b
  | .infinity _, .finite _ _ => false
  | .finite _ _, .nan => false
  | .finite _ _, .infinity _ => false
  | .finite a m, .finite b n => m == n && (m == 0 || a == b)

/-- The quotient `p / q`, in units, rounded to a 24-bit significand and no finer than one unit (gradual underflow), to
nearest, ties to even (R196). -/
def roundUnits (p q : Nat) : Nat :=
  let k := Nat.log2 (p / q) - 23
  let d := q * 2 ^ k
  let n := p / d
  let r := p % d
  (if d < 2 * r ∨ (2 * r = d ∧ n % 2 = 1) then n + 1 else n) * 2 ^ k

/-- The first magnitude past the largest finite word: `2^128`, which is `2^277` units. -/
def overflowUnits : Nat := 2 ^ 24 * 2 ^ 253

/-- A rounded magnitude with its sign; "overflow to infinity" (R196). -/
def roundFloat (negative : Bool) (p q : Nat) : FloatValue :=
  if overflowUnits ≤ roundUnits p q then .infinity negative else .finite negative (roundUnits p q)

/-- `fadd32` (R196, R204): exact sum, one rounding; an exact zero sum of values of both signs is `+0.0`. -/
def fadd32 : FloatValue → FloatValue → FloatValue
  | .nan, _ => .nan
  | .infinity _, .nan => .nan
  | .infinity a, .infinity b => if a = b then .infinity a else .nan
  | .infinity a, .finite _ _ => .infinity a
  | .finite _ _, .nan => .nan
  | .finite _ _, .infinity b => .infinity b
  | .finite a m, .finite b n =>
    if a = b then roundFloat a (m + n) 1
    else if m = n then .finite false 0
    else if n < m then roundFloat a (m - n) 1
    else roundFloat b (n - m) 1

/-- `fdiv32` (R196, R204): exact quotient, one rounding. -/
def fdiv32 : FloatValue → FloatValue → FloatValue
  | .nan, _ => .nan
  | .infinity _, .nan => .nan
  | .infinity _, .infinity _ => .nan
  | .infinity a, .finite b _ => .infinity (a != b)
  | .finite _ _, .nan => .nan
  | .finite a _, .infinity b => .finite (a != b) 0
  | .finite a m, .finite b n =>
    if n = 0 then (if m = 0 then .nan else .infinity (a != b))
    else roundFloat (a != b) (m * 2 ^ 149) n

/-- `cvt32(N)`, exact for `N <= 2^24` (R196). -/
def cvt32 (n : Nat) : FloatValue := roundFloat false (n * 2 ^ 149) 1

/-- The word with sign `s`, biased exponent `e` and fraction `f` (R160). -/
def floatWord (s : Bool) (e f : Nat) : Word := BitVec.ofBool s ++ BitVec.ofNat 8 e ++ BitVec.ofNat 23 f

/-- The word of a value, a NaN becoming the NaN word supplied. -/
def wordOfFloat (nanWord : NaNWord) : FloatValue → Word
  | .nan => floatWord nanWord.sign 255 (nanWord.fractionMinusOne.val + 1)
  | .infinity negative => floatWord negative 255 0
  | .finite negative m =>
    if m < 2 ^ 23 then floatWord negative 0 m
    else floatWord negative (Nat.log2 m - 22) (m / 2 ^ (Nat.log2 m - 23) - 2 ^ 23)

/-- The running sum of R196: "`acc = 0x00000000`", then each word in window order, oldest first. -/
def floatSum (ws : List Word) : FloatValue :=
  ws.foldl (fun acc w => fadd32 acc (f32Val w)) (.finite false 0)

/-- `Mean32(ws)` under the default `MEAN_ARITH` (R196), as a value. -/
def meanValue (ws : List Word) : FloatValue := fdiv32 (floatSum ws) (cvt32 ws.length)

/-- `Mean32(ws)` under the default `MEAN_ARITH` (R196). A NaN is the free NaN word of the lane (R204, U8; entry 12). -/
def binary32Mean (ws : List Word) : Word := wordOfFloat (Config.meanNaN ws) (meanValue ws)

/-- `Mean32` under the block's `MEAN_ARITH` (R196, D8; entry 11). -/
def mean32 (arith : MeanArith) (ws : List Word) : Word :=
  match arith with
  | .binary32 => binary32Mean ws
  | .custom id => Config.customMean id ws

end Sys2Proof.Machine
end

