-- ==== Sys2Proof/WellFormed.lean ====
section
/-! DEFINITION. Which instructions the host can name: a window size must fit the 32-bit `ARG` (spec/30_encoding.md R90). -/

namespace Sys2Proof

/-- The instruction's argument fits `ARG` (R90). A size above `NMAX` is well formed: it is `WindowConfigError`, a result
of the machine (R91, R200). -/
def Instr.wellFormed : Instr → Bool
  | .init n => decide (n < 2 ^ 32)
  | .startMeas => true
  | .stopMeas => true
  | .readDataReady => true
  | .readMeas => true
  | .sleep => true
  | .wakeup => true
  | .startFanClean => true
  | .readAutoclean => true
  | .writeAutoclean _ => true
  | .readProductType => true
  | .readSerial => true
  | .readFwVersion => true
  | .readStatus => true
  | .clearStatus => true
  | .reset => true
  | .setWindow n => decide (n < 2 ^ 32)
  | .deviceInfo => true

end Sys2Proof
end

