-- ==== Sys2Proof/Decode.lean ====
section
/-! DEFINITION. The host encoding of spec/30_encoding.md R90 and R91: the `OPSEL` table, the total decoder that rejects
by name, the encoder written from the same table, and the reading of an opcode-table word. -/

namespace Sys2Proof

/-- Why a request names no operation. -/
inductive DecodeError where
  /-- `OPSEL` 18 to 31 "names no operation" (R91); the machine answers `Err(EC_UNKNOWN_OP, OPSEL)`. -/
  | unknownOp (opsel : BitVec 5)
deriving DecidableEq, Repr

/-- The `OPSEL` code of an operation (the table of R90). -/
def Operation.opsel : Operation → BitVec 5
  | .init => 0
  | .startMeas => 1
  | .stopMeas => 2
  | .readDataReady => 3
  | .readMeas => 4
  | .sleep => 5
  | .wakeup => 6
  | .startFanClean => 7
  | .readAutoclean => 8
  | .writeAutoclean => 9
  | .readProductType => 10
  | .readSerial => 11
  | .readFwVersion => 12
  | .readStatus => 13
  | .clearStatus => 14
  | .reset => 15
  | .setWindow => 16
  | .deviceInfo => 17

/-- The operation of an instruction. -/
def Instr.operation : Instr → Operation
  | .init _ => .init
  | .startMeas => .startMeas
  | .stopMeas => .stopMeas
  | .readDataReady => .readDataReady
  | .readMeas => .readMeas
  | .sleep => .sleep
  | .wakeup => .wakeup
  | .startFanClean => .startFanClean
  | .readAutoclean => .readAutoclean
  | .writeAutoclean _ => .writeAutoclean
  | .readProductType => .readProductType
  | .readSerial => .readSerial
  | .readFwVersion => .readFwVersion
  | .readStatus => .readStatus
  | .clearStatus => .clearStatus
  | .reset => .reset
  | .setWindow _ => .setWindow
  | .deviceInfo => .deviceInfo

/-- The instruction the host names by `OPSEL` and `ARG` (R90), or the rejection of an `OPSEL` of 18 to 31 (R91). -/
def decode (r : Request) : Except DecodeError Instr :=
  match r.opsel.toNat with
  | 0 => .ok (.init r.arg.toNat)
  | 1 => .ok .startMeas
  | 2 => .ok .stopMeas
  | 3 => .ok .readDataReady
  | 4 => .ok .readMeas
  | 5 => .ok .sleep
  | 6 => .ok .wakeup
  | 7 => .ok .startFanClean
  | 8 => .ok .readAutoclean
  | 9 => .ok (.writeAutoclean r.arg)
  | 10 => .ok .readProductType
  | 11 => .ok .readSerial
  | 12 => .ok .readFwVersion
  | 13 => .ok .readStatus
  | 14 => .ok .clearStatus
  | 15 => .ok .reset
  | 16 => .ok (.setWindow r.arg.toNat)
  | 17 => .ok .deviceInfo
  | _ => .error (.unknownOp r.opsel)

/-- The `ARG` that goes with an instruction; 0 where the operation ignores it (R91). -/
def Instr.argument : Instr → Word
  | .init n => BitVec.ofNat 32 n
  | .startMeas => 0
  | .stopMeas => 0
  | .readDataReady => 0
  | .readMeas => 0
  | .sleep => 0
  | .wakeup => 0
  | .startFanClean => 0
  | .readAutoclean => 0
  | .writeAutoclean v => v
  | .readProductType => 0
  | .readSerial => 0
  | .readFwVersion => 0
  | .readStatus => 0
  | .clearStatus => 0
  | .reset => 0
  | .setWindow n => BitVec.ofNat 32 n
  | .deviceInfo => 0

/-- The pair `(OPSEL, ARG)` that names an instruction (R90). -/
def encode (i : Instr) : Request := ⟨i.operation.opsel, i.argument⟩

/-- The request whose bits are `w`, numbered as spec/opcode_table.json numbers them: `OPSEL` is bits 4..0 (the table's
mask 0x1F), `ARG` follows the selector's byte, in bits 39..8. DESIGN CHOICE (entry 2): the spec gives `OPSEL` and `ARG` as two
values and no layout that holds both; safe, no instruction's effect depends on it. -/
def requestOfTableWord (nbits w : Nat) : Request :=
  ⟨BitVec.ofNat 5 (w % 2 ^ nbits), BitVec.ofNat 32 ((w % 2 ^ nbits) / 256)⟩

/-- The instruction the decoder reads from a table word of `nbits` bits, the bits above them 0. -/
def decodeTableWord (nbits w : Nat) : Option Instr :=
  match decode (requestOfTableWord nbits w) with
  | .ok i => some i
  | .error _ => none

end Sys2Proof
end

