-- ==== Sys2Proof/Machine/Checksum.lean ====
section
/-! DEFINITION. The Checksum Engine (spec/40_checksum.md R110 to R118) and the packet (spec/30_encoding.md R80). -/

namespace Sys2Proof.Machine

/-- One of the eight iterations: "if high bit set, shift left and XOR with polynomial 0x31 (masked to 8 bits), else shift
left (masked to 8 bits)"; the bit is tested before the shift (R111). -/
def crcStep (acc : Byte) : Byte :=
  if acc.msb then (acc <<< 1) ^^^ 0x31 else acc <<< 1

/-- One data byte: "XOR into accumulator, then for 8 iterations" (R111). -/
def crcByte (acc b : Byte) : Byte :=
  crcStep (crcStep (crcStep (crcStep (crcStep (crcStep (crcStep (crcStep (acc ^^^ b))))))))

/-- `Checksum(b0, b1)`: the accumulator starts at `0xFF`, `b0` first, no final exclusive or (R111). -/
def checksum (b0 b1 : Byte) : Byte :=
  crcByte (crcByte 0xFF b0) b1

/-- `ChecksumList(s)`: `ChecksumInputError` for other than two bytes, never `0xFF` (R113, R256). -/
def checksumList : List Byte → Except Error Byte
  | [b0, b1] => .ok (checksum b0 b1)
  | s => .error (.checksumInput s.length)

/-- `MkPacket(d0, d1) = [d0, d1, Checksum(d0, d1)]` (R116). -/
def mkPacket (d0 d1 : Byte) : List Byte := [d0, d1, checksum d0 d1]

/-- `PacketOk([d0, d1, c]) = (Checksum(d0, d1) = c)` (R117). -/
def packetOk (d0 d1 c : Byte) : Bool := checksum d0 d1 == c

end Sys2Proof.Machine
end

