-- ==== Sys2Proof/Machine/Operands.lean ====
section
/-! DEFINITION. Operand forms: byte order (spec/20_memory.md R60 to R62), how arguments become bytes and bytes become
values (spec/30_encoding.md R87), the word assembly of spec/42_response_decoder.md R148 to R151, and the legal window sizes
(spec/45_rolling_aggregator.md R199, R200). -/

namespace Sys2Proof.Machine

/-- `W16(b0, b1) = {b0, b1}`: the first byte is the more significant (R60). -/
def w16 (b0 b1 : Byte) : Half := b0 ++ b1

/-- `a[15:8]`, the byte of a half-word that is sent first (R87 (a)). -/
def highByte (a : Half) : Byte := a.extractLsb' 8 8

/-- `a[7:0]`, the byte sent second (R87 (a)). -/
def lowByte (a : Half) : Byte := a.extractLsb' 0 8

/-- `v[31:16]`. -/
def highHalf (v : Word) : Half := v.extractLsb' 16 16

/-- `v[15:0]`. -/
def lowHalf (v : Word) : Half := v.extractLsb' 0 16

/-- `W32BE(h0, h1) = {h0, h1}`: first packet the most significant half (R61). -/
def w32be (h0 h1 : Half) : Word := h0 ++ h1

/-- `W32LEH(h0, h1) = {h1, h0}`: first packet the least significant half (R61). -/
def w32leh (h0 h1 : Half) : Word := h1 ++ h0

/-- `AsWord16` (R148): `(false, 0)` for an invalid field. A field of one packet carries two bytes; other lengths do not occur. -/
def asWord16 : Option (List Byte) → Bool × Half
  | some [d0, d1] => (true, w16 d0 d1)
  | some _ => (false, 0)
  | none => (false, 0)

/-- `AsWord32BE` (R149), for measurement values and the status register. -/
def asWord32BE : Option (List Byte) → Bool × Word
  | some [d0, d1, d2, d3] => (true, w32be (w16 d0 d1) (w16 d2 d3))
  | some _ => (false, 0)
  | none => (false, 0)

/-- `AsWord32LEH` (R150), for the auto-clean interval. -/
def asWord32LEH : Option (List Byte) → Bool × Word
  | some [d0, d1, d2, d3] => (true, w32leh (w16 d0 d1) (w16 d2 d3))
  | some _ => (false, 0)
  | none => (false, 0)

/-- `AsBytes` (R151): the data bytes uninterpreted, or `(false, [])`. -/
def asBytes : Option (List Byte) → Bool × List Byte
  | some data => (true, data)
  | none => (false, [])

/-- `NMAX` (R6). -/
def nmax (p : Params) : Nat := p.nmaxMinusOne.val + 1

/-- A window size that `SetWindow` refuses: "`n < 1` or `n > NMAX`" (R199). -/
abbrev WindowIllegal (p : Params) (n : Nat) : Prop := n < 1 ∨ nmax p < n

end Sys2Proof.Machine
end

