-- ==== Sys2Proof/Machine/CommandEncoder.lean ====
section
/-! DEFINITION. The command table (spec/30_encoding.md R84 to R88) and the Command Encoder (spec/41_command_encoder.md
R120 to R127). -/

namespace Sys2Proof.Machine

/-- The value a per-command parameter gives one command. -/
def perCommand {α : Type} (t : PerCommand α) : BusCommand → α
  | .startMeas => t.startMeas
  | .stopMeas => t.stopMeas
  | .readDataReady => t.readDataReady
  | .readMeas => t.readMeas
  | .sleep => t.sleep
  | .wakeup => t.wakeup
  | .startFanClean => t.startFanClean
  | .readAutoclean => t.readAutoclean
  | .writeAutoclean => t.writeAutoclean
  | .readProductType => t.readProductType
  | .readSerial => t.readSerial
  | .readFwVersion => t.readFwVersion
  | .readStatus => t.readStatus
  | .clearStatus => t.clearStatus
  | .reset => t.reset

/-- The number of packets of a command's response (R86, column "packets"). -/
def packetCount : BusCommand → Nat
  | .startMeas => 0
  | .stopMeas => 0
  | .readDataReady => 1
  | .readMeas => 20
  | .sleep => 0
  | .wakeup => 0
  | .startFanClean => 0
  | .readAutoclean => 2
  | .writeAutoclean => 0
  | .readProductType => 4
  | .readSerial => 16
  | .readFwVersion => 1
  | .readStatus => 2
  | .clearStatus => 0
  | .reset => 0

/-- `RLEN`, the expected response length in bytes, `3 * count` (R86, R140). -/
def rlen (cmd : BusCommand) : Nat := 3 * packetCount cmd

/-- `EncodeBare((op0, op1)) = [op0, op1]` (R81, R121). -/
def encodeBare (op : BytePair) : List Byte := [op.first, op.second]

/-- `EncodeSingle((op0, op1), a) = [op0, op1] ++ MkPacket(a[15:8], a[7:0])` (R82, R122). -/
def encodeSingle (op : BytePair) (a : Half) : List Byte :=
  [op.first, op.second] ++ mkPacket (highByte a) (lowByte a)

/-- `EncodeDual((op0, op1), h0, h1)`, `h0` sent first, each half with its own checksum (R83, R123). -/
def encodeDual (op : BytePair) (h0 h1 : Half) : List Byte :=
  [op.first, op.second] ++ mkPacket (highByte h0) (lowByte h0) ++ mkPacket (highByte h1) (lowByte h1)

/-- `Encode(cmd, ARG)` (R124): `START_MEAS` is the single-argument command, `WRITE_AUTOCLEAN` the dual one, low half
first; every other command is bare. -/
def encodeFrame (p : Params) (cmd : BusCommand) (arg : Word) : List Byte :=
  match cmd with
  | .startMeas => encodeSingle p.opcode.startMeas (w16 p.startArg.first p.startArg.second)
  | .writeAutoclean => encodeDual p.opcode.writeAutoclean (lowHalf arg) (highHalf arg)
  | .stopMeas => encodeBare p.opcode.stopMeas
  | .readDataReady => encodeBare p.opcode.readDataReady
  | .readMeas => encodeBare p.opcode.readMeas
  | .sleep => encodeBare p.opcode.sleep
  | .wakeup => encodeBare p.opcode.wakeup
  | .startFanClean => encodeBare p.opcode.startFanClean
  | .readAutoclean => encodeBare p.opcode.readAutoclean
  | .readProductType => encodeBare p.opcode.readProductType
  | .readSerial => encodeBare p.opcode.readSerial
  | .readFwVersion => encodeBare p.opcode.readFwVersion
  | .readStatus => encodeBare p.opcode.readStatus
  | .clearStatus => encodeBare p.opcode.clearStatus
  | .reset => encodeBare p.opcode.reset

end Sys2Proof.Machine
end

