-- ==== Sys2Proof/Machine/Flags.lean ====
section
/-! DEFINITION. Every flag the spec computes: section validity (spec/44_measurement_assembler.md R179, R181), the decoded
status flags (spec/46_session_operations.md R235), the derived measuring flag (spec/10_state.md R36), and the numeric codes of
the mode variables (R21, R22). -/

namespace Sys2Proof.Machine

/-- All three sections invalid: what `START_MEAS` writes (R24). -/
def noSections : Sections := ⟨false, false, false⟩

/-- All three sections valid. -/
def allSections : Sections := ⟨true, true, true⟩

/-- `Sec(i)`: "`Sec(0..3) = 0`, `Sec(4..8) = 1`, `Sec(9) = 2`" (R30). -/
def sectionIndex (i : Nat) : Nat := if i < 4 then 0 else if i < 9 then 1 else 2

/-- The section flags from the ten field verdicts (R179). -/
def sectionsOf (ok : Nat → Bool) : Sections where
  mass := ok 0 && ok 1 && ok 2 && ok 3
  count := ok 4 && ok 5 && ok 6 && ok 7 && ok 8
  size := ok 9

/-- "accepted only if all three section-validity flags are true" (R181). -/
def Sections.accepted (v : Sections) : Bool := v.mass && v.count && v.size

/-- `StatusFlags(w) = (w[ST_BIT_SPEED], w[ST_BIT_LASER], w[ST_BIT_FAN])` (R235). -/
def statusFlags (p : Params) (w : Word) : StatusFlags where
  speed := w.getLsbD p.stBitSpeed.val
  laser := w.getLsbD p.stBitLaser.val
  fan := w.getLsbD p.stBitFan.val

/-- `MEASURING = (SS = Measuring)`, derived (R36). -/
def State.measuring (s : State) : Bool := s.ss == .measuring

/-- `WIN_LEN` (R29). -/
def State.winLen (s : State) : Nat := s.wbuf.length

/-- The codes of `LIFE` (R21). -/
def Life.code : Life → Nat
  | .uninit => 0
  | .ready => 1
  | .fatal => 2

/-- The codes of `SS` (R22). -/
def Session.code : Session → Nat
  | .idle => 0
  | .measuring => 1
  | .sleeping => 2

end Sys2Proof.Machine
end

