-- ==== Sys2Proof/Machine/Ops.lean ====
section
/-! DEFINITION. The shared operations: named updates of the state, the Transport primitives with their error behaviour
(spec/20_memory.md R51 to R58), the raising of an error and the return of a result (spec/60_exceptions.md R262, R264), the
prologue (spec/46_session_operations.md R210), the bodies of bus commands (R231, R232) and the hardware reset
(spec/70_reset_and_hazards.md R280). -/

namespace Sys2Proof.Machine

/-! ### Named updates -/

/-- `LIFE <- l`. -/
def State.setLife (s : State) (l : Life) : State := { s with life := l }

/-- `SS <- ss`. -/
def State.setSession (s : State) (ss : Session) : State := { s with ss := ss }

/-- `SS <- ss; FAN_ACTIVE <- fan`. -/
def State.setMode (s : State) (ss : Session) (fan : Bool) : State := { s with ss := ss, fanActive := fan }

/-- `VALID[0..2] <- v`. -/
def State.setValid (s : State) (v : Sections) : State := { s with valid := v }

/-- `ERR_CUM <- 0; ERR_LAST <- 0`. -/
def State.clearCounters (s : State) : State := { s with errCum := 0, errLast := 0 }

/-- `ERR_LAST <- 0`: "a new attempt begins" (R26, R232). -/
def State.startAttempt (s : State) : State := { s with errLast := 0 }

/-- `WIN_N <- n; WIN_LEN <- 0` (R199). -/
def State.setWindow (s : State) (n : Nat) : State := { s with winN := n, wbuf := [] }

/-- The frames of the window become `w`. -/
def State.setWbuf (s : State) (w : List Frame) : State := { s with wbuf := w }

/-- The environment becomes `e`. -/
def State.setEnv (s : State) (e : Env) : State := { s with env := e }

/-- The moves to come become `ms`. -/
def State.setMoves (s : State) (ms : List HostMove) : State := { s with moves := ms }

/-- The result `r` goes to the host. -/
def State.deliver (s : State) (r : Result) : State := { s with results := s.results ++ [r] }

/-! ### Sequencing, raising and returning -/

/-- The next statement of an operation: not run after a `raise`, "no later statement runs" (R262). -/
def Ran.andThen {α β : Type} (r : Ran α) (k : α → State → Ran β) : Ran β :=
  match r with
  | .done a s => k a s
  | .raised e s => .raised e s

/-- `raise E(info)`: "every state write already made by the operation stays, no later statement runs" (R262). There is no
vector, no saved register and no mode switch to model. -/
def raise {α : Type} (e : Error) (s : State) : Ran α := .raised e s

/-- The end of an operation: its one result goes to the host, `Err(code(E), info)` after a `raise` (R9, R262); after it
"the block is ready for the next operation" (R264). -/
def finish (r : Ran Result) : Host.Outcome State Fault Refusal :=
  match r with
  | .done v s => .next (s.deliver v)
  | .raised e s => .next (s.deliver (.err e))

/-! ### The environment's answers -/

/-- The next answer: the first fixed one, else the next free value (R58). -/
def Answers.next {α : Type} (free : Nat → α) (a : Answers α) : α :=
  match a.fixed with
  | x :: _ => x
  | [] => free a.drawn

/-- The answers after one has been given. -/
def Answers.rest {α : Type} (a : Answers α) : Answers α :=
  match a.fixed with
  | _ :: xs => ⟨xs, a.drawn⟩
  | [] => ⟨[], a.drawn + 1⟩

/-- The outcome the environment gives to the next `MemWrite`. -/
def Env.nextWrite (e : Env) : WriteOutcome := e.writes.next Config.freeWrite

/-- The outcome the environment gives to the next `MemRead`. -/
def Env.nextRead (e : Env) : ReadOutcome := e.reads.next Config.freeRead

/-- The outcome the environment gives to the next `BusReset`. -/
def Env.nextReset (e : Env) : ResetOutcome := e.resets.next Config.freeReset

/-- The outcome the environment gives to the next `Probe`. -/
def Env.nextProbe (e : Env) : ProbeOutcome := e.probes.next Config.freeProbe

/-- The environment after a call: the answer it gave is used up and the call is on record. -/
def Env.after (e : Env) (c : Call) : Env :=
  match c with
  | .memWrite _ _ _ => { e with writes := e.writes.rest, calls := e.calls ++ [c] }
  | .memRead _ _ _ => { e with reads := e.reads.rest, calls := e.calls ++ [c] }
  | .settle _ => { e with calls := e.calls ++ [c] }
  | .busReset _ => { e with resets := e.resets.rest, calls := e.calls ++ [c] }
  | .probe _ _ => { e with probes := e.probes.rest, calls := e.calls ++ [c] }

/-! ### The Transport primitives -/

/-- The state after a Transport call: only the environment has moved. -/
def State.call (s : State) (c : Call) : State := s.setEnv (s.env.after c)

/-- What follows an `io_fail` (R56, R57): one `BusReset()`; if it fails, `LIFE <- Fatal` and `BusResetFatal`, else
`TransportError`. Nothing is retried (R289). -/
def recover {α : Type} (during : BusPhase) (s : State) : Ran α :=
  match s.env.nextReset with
  | .ok => raise (.transport during) (s.call (.busReset .ok))
  | .fail => raise (.busResetFatal (.during during)) ((s.call (.busReset .fail)).setLife .fatal)

/-- `BusWrite(v, d)` (R51, R53, R56): the settle delay only after a successful write. -/
def busWrite (v : List Byte) (d : Nat) (s : State) : Ran Unit :=
  match s.env.nextWrite with
  | .ok => .done () ((s.call (.memWrite s.params.devAddr v .ok)).call (.settle d))
  | .ioFail => recover .write (s.call (.memWrite s.params.devAddr v .ioFail))

/-- `BusReadN(n)` (R52, R57): the list is handed on whatever its length. -/
def busReadN (n : Nat) (s : State) : Ran (List Byte) :=
  match s.env.nextRead with
  | .bytes r => .done r (s.call (.memRead s.params.devAddr n (.bytes r)))
  | .ioFail => recover .read (s.call (.memRead s.params.devAddr n .ioFail))

/-! ### Prologue and bodies of bus commands -/

/-- The three tests of R210 that an operation with an `OPSEL` of at most 17 can fail, in their order. -/
def prologue (op : Operation) (s : State) : Option Error :=
  match s.life with
  | .fatal => some (.busResetFatal .sticky)
  | .uninit => if op = .init then none else some (.notReady op.opsel)
  | .ready => if op = .init then some (.illegalState .init (.life .ready)) else none

/-- An operation: the prologue, and past it the body (R210: "None of these four returns writes any state or makes any
Transport call"). -/
def guarded {α : Type} (op : Operation) (s : State) (body : State → Ran α) : Ran α :=
  match prologue op s with
  | some e => raise e s
  | none => body s

/-- The prologue of a request that names no operation (R91, R210): `Fatal` is tested first. -/
def rejectUnknown (opsel : BitVec 5) (s : State) : Host.Outcome State Fault Refusal :=
  match s.life with
  | .fatal => finish (raise (.busResetFatal .sticky) s)
  | .uninit => finish (raise (.unknownOp opsel) s)
  | .ready => finish (raise (.unknownOp opsel) s)

/-- `DoWriteCmd(cmd, ARG)` (R231). -/
def doWriteCmd (cmd : BusCommand) (arg : Word) (s : State) : Ran Unit :=
  busWrite (encodeFrame s.params cmd arg) (perCommand s.params.settle cmd) s

/-- `DoReadCmd(cmd)` (R232): `ERR_LAST <- 0`, the write, the read. -/
def doReadCmd (cmd : BusCommand) (s : State) : Ran (List Byte) :=
  (doWriteCmd cmd 0 s.startAttempt).andThen fun _ s => busReadN (rlen cmd) s

/-! ### Counters -/

/-- A counter that counts up and saturates at `2^CW - 1` (R27). -/
def saturatingSucc (c : BitVec 32) : BitVec 32 := if c.toNat < 2 ^ 32 - 1 then c + 1 else c

/-- `CountError()` (R27). -/
def State.countError (s : State) : State :=
  { s with errLast := saturatingSucc s.errLast, errCum := saturatingSucc s.errCum }

/-! ### Hardware reset -/

/-- A hardware reset of the block (R37, R280): every element of the state tuple at its reset value. What is outside the
block stays: the parameters, the environment, the host's moves and the results it holds (entry 14). -/
def State.hardwareReset (s : State) : State :=
  { s with
    life := .uninit
    ss := .idle
    fanActive := false
    valid := noSections
    errCum := 0
    errLast := 0
    winN := 1
    wbuf := [] }

/-- The environment when an operation is cut off after `calls` of its Transport calls: those calls have happened, the
later ones have not (R296: "no rollback is attempted"). -/
def Env.cutOff (before after : Env) (calls : Nat) : Env :=
  ((after.calls.drop before.calls.length).take calls).foldl Env.after before

/-- A hardware reset in the middle of an operation whose uninterrupted outcome is `o` (R287, R296): the calls made so far
stay made, no result is delivered, the block is at its reset values. -/
def interrupt (calls : Nat) (s : State) (o : Host.Outcome State Fault Refusal) : Host.Outcome State Fault Refusal :=
  match o with
  | .next t => .next (s.setEnv (s.env.cutOff t.env calls)).hardwareReset
  | .fault f => .fault f
  | .refused r => .refused r

end Sys2Proof.Machine
end

