-- ==== Sys2Proof/Machine/Aggregator.lean ====
section
/-! DEFINITION. The Rolling Aggregator (spec/45_rolling_aggregator.md R190 to R206). -/

namespace Sys2Proof.Machine

/-- `SetWindow(n)` (R199, R200). -/
def setWindow (n : Nat) (s : State) : Ran Unit :=
  if WindowIllegal s.params n then raise (.windowConfig n) s else .done () (s.setWindow n)

/-- `MeanFrame(frames)` (R195): "ten independent lanes", `m.V = (1, 1, 1)`. -/
def meanFrame (arith : MeanArith) (frames : List Frame) : Frame where
  f := Vector.ofFn fun i => mean32 arith (frames.map fun fr => fr.f.get i)
  v := allSections

/-- The window after `frame` is appended and, past `n` frames, the oldest evicted (R192, R193). -/
def pushWindow (n : Nat) (frame : Frame) (w : List Frame) : List Frame :=
  if n < (w ++ [frame]).length then ((w ++ [frame]).drop 1).take n else w ++ [frame]

/-- `AggPush(frame)` (R198): pass-through for `N = 1`, else append, evict, and the mean once the window is full. -/
def aggPush (frame : Frame) (s : State) : Option Frame × State :=
  if s.winN = 1 then (some frame, s)
  else
    let w := pushWindow s.winN frame s.wbuf
    (if w.length = s.winN then some (meanFrame s.params.meanArith w) else none, s.setWbuf w)

end Sys2Proof.Machine
end

