-- ==== Sys2Proof/Machine/Lifecycle.lean ====
section
/-! DEFINITION. The operations that need no command frame: `INIT` (spec/46_session_operations.md R211) and `SET_WINDOW` (R227). -/

namespace Sys2Proof.Machine

/-- The state a successful `INIT n` leaves (R38, R211). -/
def State.initialised (s : State) (n : Nat) : State :=
  ((((s.setMode .idle false).setValid noSections).clearCounters).setWindow n).setLife .ready

/-- `INIT n` (R211): the argument before the probe; no command is sent to the device. -/
def execInit (n : Nat) (s : State) : Host.Outcome State Fault Refusal :=
  finish <| guarded .init s fun s =>
    if WindowIllegal s.params n then raise (.windowConfig n) s
    else
      match s.env.nextProbe with
      | .absent => raise .connection (s.call (.probe s.params.devAddr .absent))
      | .present => .done .done ((s.call (.probe s.params.devAddr .present)).initialised n)

/-- `SET_WINDOW n` (R227): no Transport call. -/
def execSetWindow (n : Nat) (s : State) : Host.Outcome State Fault Refusal :=
  finish <| guarded .setWindow s fun s => (setWindow n s).andThen fun _ s => .done .done s

end Sys2Proof.Machine
end

