-- ==== Sys2Proof/Machine/ModeCommands.lean ====
section
/-! DEFINITION. The mode-changing commands (spec/46_session_operations.md R212, R213, R216, R217, R226): legality R229,
transitions R230, every state change after a successful write (R233). -/

namespace Sys2Proof.Machine

/-- The refusal of a mode-changing command in a session state with no arrow for it (R229, R257). -/
def illegalHere {α : Type} (op : Operation) (s : State) : Ran α :=
  raise (.illegalState op (.session s.ss)) s

/-- `START_MEAS` (R212). -/
def execStartMeas (s : State) : Host.Outcome State Fault Refusal :=
  finish <| guarded .startMeas s fun s =>
    match s.ss with
    | .idle => (doWriteCmd .startMeas 0 s).andThen fun _ s => .done .done ((s.setMode .measuring true).setValid noSections)
    | .measuring => illegalHere .startMeas s
    | .sleeping => illegalHere .startMeas s

/-- `STOP_MEAS` (R213). -/
def execStopMeas (s : State) : Host.Outcome State Fault Refusal :=
  finish <| guarded .stopMeas s fun s =>
    match s.ss with
    | .idle => illegalHere .stopMeas s
    | .measuring => (doWriteCmd .stopMeas 0 s).andThen fun _ s => .done .done (s.setMode .idle false)
    | .sleeping => illegalHere .stopMeas s

/-- `SLEEP` (R216). -/
def execSleep (s : State) : Host.Outcome State Fault Refusal :=
  finish <| guarded .sleep s fun s =>
    match s.ss with
    | .idle => (doWriteCmd .sleep 0 s).andThen fun _ s => .done .done (s.setMode .sleeping false)
    | .measuring => (doWriteCmd .sleep 0 s).andThen fun _ s => .done .done (s.setMode .sleeping false)
    | .sleeping => illegalHere .sleep s

/-- `WAKEUP` (R217): "Flags written: none". -/
def execWakeup (s : State) : Host.Outcome State Fault Refusal :=
  finish <| guarded .wakeup s fun s =>
    match s.ss with
    | .idle => illegalHere .wakeup s
    | .measuring => illegalHere .wakeup s
    | .sleeping => (doWriteCmd .wakeup 0 s).andThen fun _ s => .done .done (s.setSession .idle)

/-- `RESET` (R226): legal in every `SS`; `VALID`, the window and `LIFE` stay. -/
def execReset (s : State) : Host.Outcome State Fault Refusal :=
  finish <| guarded .reset s fun s =>
    (doWriteCmd .reset 0 s).andThen fun _ s => .done .done ((s.setMode .idle false).clearCounters)

end Sys2Proof.Machine
end

