-- ==== Sys2Proof/Machine/ResponseDecoder.lean ====
section
/-! DEFINITION. The Response Decoder: length check, fields, error counting (spec/42_response_decoder.md R140 to R157). -/

namespace Sys2Proof.Machine

/-- The data bytes of `k` packets, first packet first, or `none` at the first packet that does not check; the packets
after it are not examined (R142, R144). -/
def takePackets : Nat → List Byte → Option (List Byte)
  | 0, _ => some []
  | k + 1, d0 :: d1 :: c :: rest =>
    if packetOk d0 d1 c then (takePackets k rest).map ([d0, d1] ++ ·) else none
  | _ + 1, _ => none

/-- The verdict of `DecodeField(raw, off, k)`: the `2k` data bytes, or `none` for `Invalid` (R144). It depends on the
field's own bytes only (R145). -/
def fieldData (raw : List Byte) (off k : Nat) : Option (List Byte) := takePackets k (raw.drop off)

/-- `DecodeField(raw, off, k)` (R144): one `CountError` for an invalid field. -/
def decodeField (raw : List Byte) (off k : Nat) (s : State) : Option (List Byte) × State :=
  match fieldData raw off k with
  | some data => (some data, s)
  | none => (none, s.countError)

/-- `CheckLength(raw, count)` (R141). -/
def checkLength (raw : List Byte) (count : Nat) (s : State) : Ran Unit :=
  if raw.length = 3 * count then .done () s else raise (.lengthMismatch (3 * count) raw.length) s

/-- `DecodeSingle(cmd, raw)` up to the assembly (R154): length check, then the one field. -/
def decodeSingle (cmd : BusCommand) (raw : List Byte) (s : State) : Ran (Option (List Byte)) :=
  (checkLength raw (packetCount cmd) s).andThen fun _ s =>
    .done (decodeField raw 0 (packetCount cmd) s).1 (decodeField raw 0 (packetCount cmd) s).2

/-- The body shared by the single-field reads (R214, R219, R221 to R224). -/
def readField (cmd : BusCommand) (s : State) : Ran (Option (List Byte)) :=
  (doReadCmd cmd s).andThen fun raw s => decodeSingle cmd raw s

end Sys2Proof.Machine
end

