-- ==== Sys2Proof/Machine/Measurement.lean ====
section
/-! DEFINITION. The Measurement Assembler (spec/44_measurement_assembler.md R175 to R187). -/

namespace Sys2Proof.Machine

/-- Field `i` of a measurement response: two packets at offset `6i`, big-endian halves (R70, R177); `(false, 0)` when
invalid (R178). -/
def measField (raw : List Byte) (i : Nat) : Bool × Word := asWord32BE (fieldData raw (6 * i) 2)

/-- The frame of a response: the ten words, and the three section flags (R178, R179, R182). -/
def measFrame (raw : List Byte) : Frame where
  f := Vector.ofFn fun i => (measField raw i.val).2
  v := sectionsOf fun i => (measField raw i).1

/-- The decode of the ten fields in ascending order, "all ten, always", each invalid one counted (R180, R184). -/
def countFields (raw : List Byte) (s : State) : State :=
  (List.range 10).foldl (fun s i => (decodeField raw (6 * i) 2 s).2) s

/-- `AssembleMeasurement(raw)` (R184): the frame, or `none` when it is rejected (R181). -/
def assembleMeasurement (raw : List Byte) (s : State) : Ran (Option Frame) :=
  (checkLength raw 20 s).andThen fun _ s =>
    .done (if (measFrame raw).v.accepted then some (measFrame raw) else none)
      ((countFields raw s).setValid (measFrame raw).v)

end Sys2Proof.Machine
end

