-- ==== Sys2Proof/Machine/ReadCommands.lean ====
section
/-! DEFINITION. The reading commands (spec/46_session_operations.md R214, R215, R219, R221 to R224) and the pseudo-operation
`DEVICE_INFO` (R228), which is made of five of them. -/

namespace Sys2Proof.Machine

/-- `READ_PRODUCT_TYPE` as an operation with its prologue (R221). -/
def readProductType (s : State) : Ran (Bool × List Byte) :=
  guarded .readProductType s fun s => (readField .readProductType s).andThen fun r s => .done (asBytes r) s

/-- `READ_SERIAL` as an operation with its prologue (R222). -/
def readSerial (s : State) : Ran (Bool × List Byte) :=
  guarded .readSerial s fun s => (readField .readSerial s).andThen fun r s => .done (asBytes r) s

/-- `READ_FW_VERSION` as an operation with its prologue (R223). -/
def readFwVersion (s : State) : Ran (Bool × Half) :=
  guarded .readFwVersion s fun s => (readField .readFwVersion s).andThen fun r s => .done (asWord16 r) s

/-- `READ_AUTOCLEAN` as an operation with its prologue (R219): little-endian half order. -/
def readAutoclean (s : State) : Ran (Bool × Word) :=
  guarded .readAutoclean s fun s => (readField .readAutoclean s).andThen fun r s => .done (asWord32LEH r) s

/-- `READ_STATUS` as an operation with its prologue (R224): big-endian half order. -/
def readStatus (s : State) : Ran (Bool × Word) :=
  guarded .readStatus s fun s => (readField .readStatus s).andThen fun r s => .done (asWord32BE r) s

/-- `READ_DATA_READY` (R214): the word is not interpreted. -/
def execReadDataReady (s : State) : Host.Outcome State Fault Refusal :=
  finish <| guarded .readDataReady s fun s =>
    (readField .readDataReady s).andThen fun r s => .done (.word16Out (asWord16 r).1 (asWord16 r).2) s

/-- `READ_PRODUCT_TYPE` (R221). -/
def execReadProductType (s : State) : Host.Outcome State Fault Refusal :=
  finish <| (readProductType s).andThen fun r s => .done (.bytesOut r.1 r.2) s

/-- `READ_SERIAL` (R222). -/
def execReadSerial (s : State) : Host.Outcome State Fault Refusal :=
  finish <| (readSerial s).andThen fun r s => .done (.bytesOut r.1 r.2) s

/-- `READ_FW_VERSION` (R223). -/
def execReadFwVersion (s : State) : Host.Outcome State Fault Refusal :=
  finish <| (readFwVersion s).andThen fun r s => .done (.word16Out r.1 r.2) s

/-- `READ_AUTOCLEAN` (R219). -/
def execReadAutoclean (s : State) : Host.Outcome State Fault Refusal :=
  finish <| (readAutoclean s).andThen fun r s => .done (.word32Out r.1 r.2) s

/-- `READ_STATUS` (R224). -/
def execReadStatus (s : State) : Host.Outcome State Fault Refusal :=
  finish <| (readStatus s).andThen fun r s => .done (.word32Out r.1 r.2) s

/-- The last statements of `READ_MEAS` (R215): a rejected frame never reaches the window (R201). -/
def deliverFrame (r : Option Frame) (s : State) : Ran Result :=
  match r with
  | none => .done (.noFrame .rejected) s
  | some frame =>
    match (aggPush frame s).1 with
    | some m => .done (.frameOut m) (aggPush frame s).2
    | none => .done (.noFrame .filling) (aggPush frame s).2

/-- `READ_MEAS` past its state guard (R215). -/
def measure (s : State) : Ran Result :=
  ((doReadCmd .readMeas s).andThen fun raw s => assembleMeasurement raw s).andThen fun r s => deliverFrame r s

/-- `READ_MEAS` (R215): outside `Measuring` an empty result "without touching the bus" (R255). -/
def execReadMeas (s : State) : Host.Outcome State Fault Refusal :=
  finish <| guarded .readMeas s fun s =>
    match s.ss with
    | .idle => .done (.noFrame .notMeasuring) s
    | .measuring => measure s
    | .sleeping => .done (.noFrame .notMeasuring) s

/-- `DEVICE_INFO` (R228): five reads in this order, stopping at the first `Err`, then the record; an invalid field does not
stop it. -/
def execDeviceInfo (s : State) : Host.Outcome State Fault Refusal :=
  finish <| guarded .deviceInfo s fun s =>
    (readProductType s).andThen fun pt s =>
    (readSerial s).andThen fun sn s =>
    (readFwVersion s).andThen fun fw s =>
    (readAutoclean s).andThen fun ac s =>
    (readStatus s).andThen fun st s =>
      .done (.infoOut
        { productType := pt, serial := sn, firmware := fw, autocleanSeconds := ac, status := st,
          statusFlags := statusFlags s.params st.2, measuring := s.measuring,
          errCum := s.errCum, errLast := s.errLast, valid := s.valid, winN := s.winN }) s

end Sys2Proof.Machine
end

