-- ==== Sys2Proof/Machine/WriteCommands.lean ====
section
/-! DEFINITION. The other write-only commands (spec/46_session_operations.md R218, R220, R225): legal in every `SS`, "State
written: none". -/

namespace Sys2Proof.Machine

/-- The body of a command that only writes its frame (R231). -/
def writeOnly (cmd : BusCommand) (arg : Word) (s : State) : Ran Result :=
  (doWriteCmd cmd arg s).andThen fun _ s => .done .done s

/-- `START_FAN_CLEAN` (R218). -/
def execStartFanClean (s : State) : Host.Outcome State Fault Refusal :=
  finish <| guarded .startFanClean s fun s => writeOnly .startFanClean 0 s

/-- `WRITE_AUTOCLEAN v` (R220): any 32-bit value, low half first. -/
def execWriteAutoclean (v : Word) (s : State) : Host.Outcome State Fault Refusal :=
  finish <| guarded .writeAutoclean s fun s => writeOnly .writeAutoclean v s

/-- `CLEAR_STATUS` (R225): it clears the device's register, which is not state of the block. -/
def execClearStatus (s : State) : Host.Outcome State Fault Refusal :=
  finish <| guarded .clearStatus s fun s => writeOnly .clearStatus 0 s

end Sys2Proof.Machine
end

