-- ==== Sys2Proof/Machine/Dispatch.lean ====
section
/-! DEFINITION. One arm per instruction, each one direct call of its meaning. -/

namespace Sys2Proof.Machine

def exec (i : Instr) (s : State) : Host.Outcome State Fault Refusal :=
  match i with
  | .init n => Sys2Proof.Machine.execInit n s
  | .startMeas => Sys2Proof.Machine.execStartMeas s
  | .stopMeas => Sys2Proof.Machine.execStopMeas s
  | .readDataReady => Sys2Proof.Machine.execReadDataReady s
  | .readMeas => Sys2Proof.Machine.execReadMeas s
  | .sleep => Sys2Proof.Machine.execSleep s
  | .wakeup => Sys2Proof.Machine.execWakeup s
  | .startFanClean => Sys2Proof.Machine.execStartFanClean s
  | .readAutoclean => Sys2Proof.Machine.execReadAutoclean s
  | .writeAutoclean v => Sys2Proof.Machine.execWriteAutoclean v s
  | .readProductType => Sys2Proof.Machine.execReadProductType s
  | .readSerial => Sys2Proof.Machine.execReadSerial s
  | .readFwVersion => Sys2Proof.Machine.execReadFwVersion s
  | .readStatus => Sys2Proof.Machine.execReadStatus s
  | .clearStatus => Sys2Proof.Machine.execClearStatus s
  | .reset => Sys2Proof.Machine.execReset s
  | .setWindow n => Sys2Proof.Machine.execSetWindow n s
  | .deviceInfo => Sys2Proof.Machine.execDeviceInfo s

end Sys2Proof.Machine
end

