-- ==== Sys2Proof/Machine/Fetch.lean ====
section
/-! DEFINITION. How a host move is carried out: a request is decoded and executed, a hardware reset is applied
(spec/70_reset_and_hazards.md R286, R287). -/

namespace Sys2Proof.Machine

/-- One operation: the request is decoded and the instruction executed, or the request is refused as unknown (R91, R210). -/
def runRequest (r : Request) (s : State) : Host.Outcome State Fault Refusal :=
  match decode r with
  | .ok i => exec i s
  | .error (.unknownOp opsel) => rejectUnknown opsel s

/-- One move of the host (R287). -/
def runMove (m : HostMove) (s : State) : Host.Outcome State Fault Refusal :=
  match m with
  | .operation r => runRequest r s
  | .hardwareReset => .next s.hardwareReset
  | .interrupted r calls => interrupt calls s (runRequest r s)

/-- The state in which the host's next move is the request of a table word; the moves already pending come after it. -/
def placeRequest (s : State) (nbits w : Nat) : State :=
  s.setMoves (.operation (requestOfTableWord nbits w) :: s.moves)

end Sys2Proof.Machine
end

