-- ==== Sys2Proof/Machine/Step.lean ====
section
/-! DEFINITION. One step: the host's next move. With no move pending "Nothing happens in the block except in response to a
host operation" (spec/60_exceptions.md R266), so the state stays as it is (entry 1). -/

namespace Sys2Proof.Machine

/-- The step function: the first pending move is taken from the list and carried out. -/
def step (s : State) : Host.Outcome State Fault Refusal :=
  match s.moves with
  | [] => .next s
  | m :: ms => runMove m (s.setMoves ms)

/-- `s` with the instruction of a table word where the step takes its next one: at the head of the host's moves (entry 3). -/
def State.withFetchWord (s : State) (nbits w : Nat) : State := placeRequest s nbits w

end Sys2Proof.Machine
end

