-- ==== Sys2Proof/Machine/ErrorCodes.lean ====
section
/-! DEFINITION. The error codes of spec/60_exceptions.md R250 and which of them a result carries. -/

namespace Sys2Proof.Machine

/-- The number of a code (the table of R250). -/
def ErrorCode.number : ErrorCode → Nat
  | .none => 0
  | .connection => 1
  | .transport => 2
  | .checksum => 3
  | .lengthMismatch => 4
  | .notMeasuring => 5
  | .checksumInput => 6
  | .illegalState => 7
  | .windowConfig => 8
  | .busResetFatal => 9
  | .unknownOp => 10
  | .notReady => 11

/-- The code of a reported error (R250, R262: the result is `Err(code(E), info)`). -/
def Error.code : Error → ErrorCode
  | .connection => .connection
  | .transport _ => .transport
  | .lengthMismatch _ _ => .lengthMismatch
  | .checksumInput _ => .checksumInput
  | .illegalState _ _ => .illegalState
  | .windowConfig _ => .windowConfig
  | .busResetFatal _ => .busResetFatal
  | .unknownOp _ => .unknownOp
  | .notReady _ => .notReady

/-- The diagnostic of an empty result: `NoFrame(NotMeasuring)` "carries the diagnostic code `EC_NOT_MEASURING`" (R255),
`EC_CHECKSUM` "appears as `valid = false` or `NoFrame(Rejected)`" (R250). DEDUCED (entry 22): a window still filling is no
error; safe, nothing in the machine reads this. -/
def NoFrameReason.code : NoFrameReason → ErrorCode
  | .notMeasuring => .notMeasuring
  | .rejected => .checksum
  | .filling => .none

/-- The code of a result (R250). DEDUCED (entry 22) for `InfoOut`: `EC_NONE`, its items carry their own validity. -/
def Result.code : Result → ErrorCode
  | .done => .none
  | .frameOut _ => .none
  | .noFrame r => r.code
  | .word16Out valid _ => if valid then .none else .checksum
  | .word32Out valid _ => if valid then .none else .checksum
  | .bytesOut valid _ => if valid then .none else .checksum
  | .infoOut _ => .none
  | .err e => e.code

end Sys2Proof.Machine
end

