-- ==== Sys2Proof/Safety.lean ====
section
/-! DEFINITION. The terms in which claims about the block are stated: the state tuple of spec/10_state.md R20, the invariant
of R39, the premise "no fault recorded" of R259, legality by session state (R229), and the environment after the Transport
calls of one bus command (spec/20_memory.md R56, R57). -/

namespace Sys2Proof.Machine

/-- "The complete state of the block between operations is the tuple" (R20). -/
structure Tuple where
  life : Life
  ss : Session
  fanActive : Bool
  valid : Sections
  errCum : BitVec 32
  errLast : BitVec 32
  winN : Nat
  wbuf : List Frame
deriving DecidableEq, Repr

/-- The tuple of R20. -/
def State.tuple (s : State) : Tuple :=
  ⟨s.life, s.ss, s.fanActive, s.valid, s.errCum, s.errLast, s.winN, s.wbuf⟩

/-- The tuple of R37. -/
def resetTuple : Tuple := ⟨.uninit, .idle, false, noSections, 0, 0, 1, []⟩

/-- The invariants of R39. -/
structure State.Inv (s : State) : Prop where
  winN_pos : 1 ≤ s.winN
  winN_le_nmax : s.winN ≤ nmax s.params
  winLen_le : s.winLen ≤ s.winN
  passThrough_empty : s.winN = 1 → s.winLen = 0
  wbuf_accepted : ∀ fr ∈ s.wbuf, fr.v = allSections
  fan_iff_measuring : s.fanActive = true ↔ s.ss = .measuring
  errLast_le_errCum : s.errLast.toNat ≤ s.errCum.toNat
  uninit_at_reset : s.life = .uninit → s.tuple = resetTuple

/-- "a model's 'no fault recorded' premise is `LIFE != Fatal`" (R259). -/
abbrev State.NoFault (s : State) : Prop := s.life ≠ .fatal

/-- The session is up: the state in which the session-state rules apply (R210). -/
abbrev State.Ready (s : State) : Prop := s.life = .ready

/-- The bus command an operation sends; none for the local operations and for `DEVICE_INFO`, which is a sequence of five (R86, R90). -/
def busCommandOf : Instr → Option BusCommand
  | .init _ => none
  | .startMeas => some .startMeas
  | .stopMeas => some .stopMeas
  | .readDataReady => some .readDataReady
  | .readMeas => some .readMeas
  | .sleep => some .sleep
  | .wakeup => some .wakeup
  | .startFanClean => some .startFanClean
  | .readAutoclean => some .readAutoclean
  | .writeAutoclean _ => some .writeAutoclean
  | .readProductType => some .readProductType
  | .readSerial => some .readSerial
  | .readFwVersion => some .readFwVersion
  | .readStatus => some .readStatus
  | .clearStatus => some .clearStatus
  | .reset => some .reset
  | .setWindow _ => none
  | .deviceInfo => none

/-- The session states in which a bus command makes its bus transaction (the table of R229). -/
def legalIn : BusCommand → Session → Bool
  | .startMeas, ss => ss == .idle
  | .stopMeas, ss => ss == .measuring
  | .readMeas, ss => ss == .measuring
  | .sleep, ss => ss != .sleeping
  | .wakeup, ss => ss == .sleeping
  | .readDataReady, _ => true
  | .startFanClean, _ => true
  | .readAutoclean, _ => true
  | .writeAutoclean, _ => true
  | .readProductType, _ => true
  | .readSerial, _ => true
  | .readFwVersion, _ => true
  | .readStatus, _ => true
  | .clearStatus, _ => true
  | .reset, _ => true

/-- The six reading commands whose response is one field (R154, R155). -/
def singleFieldRead : BusCommand → Bool
  | .readDataReady => true
  | .readAutoclean => true
  | .readProductType => true
  | .readSerial => true
  | .readFwVersion => true
  | .readStatus => true
  | .startMeas => false
  | .stopMeas => false
  | .readMeas => false
  | .sleep => false
  | .wakeup => false
  | .startFanClean => false
  | .writeAutoclean => false
  | .clearStatus => false
  | .reset => false

/-- `ERR_LAST` once a command has begun: 0 for a reading command (R232), unchanged for a write-only one. -/
def errLastBegun (cmd : BusCommand) (s : State) : BitVec 32 := if rlen cmd = 0 then s.errLast else 0

/-- A counter after `n` calls of `CountError`, saturated at `2^CW - 1` (R27). -/
def counted (c : BitVec 32) (n : Nat) : BitVec 32 := BitVec.ofNat 32 (min (c.toNat + n) (2 ^ 32 - 1))

/-- How many of the one field of a response are invalid: 0 or 1 (R146). -/
def invalidCount (raw : List Byte) (packets : Nat) : Nat := if (fieldData raw 0 packets).isSome then 0 else 1

/-- How many of the ten fields of a measurement response are invalid (R180). -/
def invalidFields (raw : List Byte) : Nat := (List.range 10).countP fun i => !(measField raw i).1

/-- The environment after a successful write and its settle delay (R56). -/
def Env.sent (e : Env) (p : Params) (v : List Byte) (d : Nat) : Env :=
  { e with writes := e.writes.rest, calls := e.calls ++ [.memWrite p.devAddr v .ok, .settle d] }

/-- The environment after a successful write and a read that returned `r` (R56, R57). -/
def Env.exchanged (e : Env) (p : Params) (v : List Byte) (d n : Nat) (r : List Byte) : Env :=
  { e with
    writes := e.writes.rest
    reads := e.reads.rest
    calls := e.calls ++ [.memWrite p.devAddr v .ok, .settle d, .memRead p.devAddr n (.bytes r)] }

/-- The environment after a failed write and its bus reset (R56). -/
def Env.writeFailed (e : Env) (p : Params) (v : List Byte) : Env :=
  { e with
    writes := e.writes.rest
    resets := e.resets.rest
    calls := e.calls ++ [.memWrite p.devAddr v .ioFail, .busReset e.nextReset] }

/-- The environment after a successful write, a failed read and its bus reset (R57). -/
def Env.readFailed (e : Env) (p : Params) (v : List Byte) (d n : Nat) : Env :=
  { e with
    writes := e.writes.rest
    reads := e.reads.rest
    resets := e.resets.rest
    calls := e.calls ++ [.memWrite p.devAddr v .ok, .settle d, .memRead p.devAddr n .ioFail, .busReset e.nextReset] }

/-- The environment after a probe (R55). -/
def Env.probed (e : Env) (p : Params) : Env :=
  { e with probes := e.probes.rest, calls := e.calls ++ [.probe p.devAddr e.nextProbe] }

/-- The error of an `io_fail` (R56, R57, R265): `BusResetFatal` if the bus reset failed too. -/
def ioError (q : ResetOutcome) (during : BusPhase) : Error :=
  match q with
  | .ok => .transport during
  | .fail => .busResetFatal (.during during)

/-- `LIFE` after an `io_fail` (R56, R57). -/
def lifeAfterIoFail (q : ResetOutcome) (l : Life) : Life :=
  match q with
  | .ok => l
  | .fail => .fatal

/-- The results an operation can return when it returns no `Err` (the table of R234). -/
def resultFits : Instr → Result → Prop
  | .readMeas, r => (∃ f, r = .frameOut f) ∨ ∃ reason, r = .noFrame reason
  | .readDataReady, r => ∃ valid w, r = .word16Out valid w
  | .readFwVersion, r => ∃ valid w, r = .word16Out valid w
  | .readAutoclean, r => ∃ valid w, r = .word32Out valid w
  | .readStatus, r => ∃ valid w, r = .word32Out valid w
  | .readProductType, r => ∃ valid b, r = .bytesOut valid b
  | .readSerial, r => ∃ valid b, r = .bytesOut valid b
  | .deviceInfo, r => ∃ record, r = .infoOut record
  | .init _, r => r = .done
  | .startMeas, r => r = .done
  | .stopMeas, r => r = .done
  | .sleep, r => r = .done
  | .wakeup, r => r = .done
  | .startFanClean, r => r = .done
  | .writeAutoclean _, r => r = .done
  | .clearStatus, r => r = .done
  | .reset, r => r = .done
  | .setWindow _, r => r = .done

/-- The Transport calls one operation other than `DEVICE_INFO` may make, in call order (R64, R66): none; the probe of `INIT`;
or one write to `DEV_ADDR`, and after it its bus reset if it failed, else its settle delay and, for a reading command, one read
of `RLEN` bytes with its bus reset if that failed. -/
def transactionFits (p : Params) (i : Instr) (c : List Call) : Prop :=
  c = [] ∨ (∃ n o, i = .init n ∧ c = [.probe p.devAddr o]) ∨
  ∃ cmd, busCommandOf i = some cmd ∧
    ((∃ q, c = [.memWrite p.devAddr (encodeFrame p cmd i.argument) .ioFail, .busReset q]) ∨
     (rlen cmd = 0 ∧ c = [.memWrite p.devAddr (encodeFrame p cmd i.argument) .ok, .settle (perCommand p.settle cmd)]) ∨
     (rlen cmd ≠ 0 ∧ ∃ r, c = [.memWrite p.devAddr (encodeFrame p cmd i.argument) .ok, .settle (perCommand p.settle cmd),
        .memRead p.devAddr (rlen cmd) (.bytes r)]) ∨
     (rlen cmd ≠ 0 ∧ ∃ q, c = [.memWrite p.devAddr (encodeFrame p cmd i.argument) .ok, .settle (perCommand p.settle cmd),
        .memRead p.devAddr (rlen cmd) .ioFail, .busReset q]))

/-- R195: `m` is the mean frame of `frames`, oldest first. Each lane is the mean, under `MEAN_ARITH`, of that lane's words of
all the frames in their order: the default's, or whatever a custom arithmetic makes of those words (entry 11). -/
def IsMeanFrame (arith : MeanArith) (frames : List Frame) (m : Frame) : Prop :=
  m.v = ⟨true, true, true⟩ ∧ ∀ i : Fin 10,
    (arith = .binary32 → m.f.get i = mean32 .binary32 (frames.map fun fr => fr.f.get i)) ∧
    ∀ id, arith = .custom id → m.f.get i = Config.customMean id (frames.map fun fr => fr.f.get i)

/-- The five commands of `DEVICE_INFO`, in their order (R228). -/
def infoCommands : List BusCommand := [.readProductType, .readSerial, .readFwVersion, .readAutoclean, .readStatus]

/-- The Transport calls of a reading command whose write succeeded and whose read returned `raw` (R56, R57, R232). -/
def exchangeCalls (p : Params) (cmd : BusCommand) (raw : List Byte) : List Call :=
  [.memWrite p.devAddr (encodeFrame p cmd 0) .ok, .settle (perCommand p.settle cmd),
    .memRead p.devAddr (rlen cmd) (.bytes raw)]

/-- The Transport calls of reading commands done one after the other, up to the first that ends in an `Err` (R228): a failed
write or a failed read with its bus reset, or a response of another length, is the last of them. -/
def readsFit (p : Params) : List BusCommand → List Call → Prop
  | [], c => c = []
  | cmd :: cmds, c =>
    (∃ q, c = [.memWrite p.devAddr (encodeFrame p cmd 0) .ioFail, .busReset q]) ∨
    (∃ q, c = [.memWrite p.devAddr (encodeFrame p cmd 0) .ok, .settle (perCommand p.settle cmd),
      .memRead p.devAddr (rlen cmd) .ioFail, .busReset q]) ∨
    (∃ raw, raw.length ≠ rlen cmd ∧ c = exchangeCalls p cmd raw) ∨
    ∃ raw c', raw.length = rlen cmd ∧ c = exchangeCalls p cmd raw ++ c' ∧ readsFit p cmds c'

/-- The error ends an operation in the middle of its bus transaction (R263). -/
def Error.inTransaction : Error → Bool
  | .transport _ => true
  | .busResetFatal (.during _) => true
  | .lengthMismatch _ _ => true
  | .busResetFatal .sticky => false
  | .connection => false
  | .checksumInput _ => false
  | .illegalState _ _ => false
  | .windowConfig _ => false
  | .unknownOp _ => false
  | .notReady _ => false

/-- The error is the first report of a failed bus reset (R259). -/
def Error.isFirstFatal : Error → Bool
  | .busResetFatal (.during _) => true
  | .busResetFatal .sticky => false
  | .transport _ => false
  | .lengthMismatch _ _ => false
  | .connection => false
  | .checksumInput _ => false
  | .illegalState _ _ => false
  | .windowConfig _ => false
  | .unknownOp _ => false
  | .notReady _ => false

/-- The reading operations of one command: those with a response (R64, R86). -/
def readsResponse (i : Instr) : Bool :=
  match busCommandOf i with
  | some cmd => rlen cmd != 0
  | none => false

/-- The answers after the first `k` have been given. -/
def Answers.skip {α : Type} : Nat → Answers α → Answers α
  | 0, a => a
  | k + 1, a => Answers.skip k a.rest

/-- A packet of `raw` at byte offset `o` checks (R142). -/
def packetChecks (raw : List Byte) (o : Nat) : Bool :=
  packetOk (raw.getD o 0) (raw.getD (o + 1) 0) (raw.getD (o + 2) 0)

/-- A magnitude, in units of `2^(-149)`, that a 24-bit significand holds (R160, R162). -/
def Representable (m : Nat) : Prop := ∃ a e : Nat, a < 2 ^ 24 ∧ m = a * 2 ^ e

/-- The signed number of units of a finite value. -/
def FloatValue.toInt : FloatValue → Int
  | .finite negative m => if negative then -(m : Int) else (m : Int)
  | .infinity _ => 0
  | .nan => 0

/-- The value is finite. -/
def FloatValue.isFinite : FloatValue → Bool
  | .finite _ _ => true
  | .infinity _ => false
  | .nan => false

end Sys2Proof.Machine
end

