-- ==== Sys2Proof/Certificates/Slice0/Obligations.lean ====
section
/-! DEFINITION. The statements about the model, for the provers. Each names the rule of spec/ it formalises. "The block's
tuple" is the state of spec/10_state.md R20. Statements about a next state give the whole of it, so that what is not named is
unchanged; the block has no memory, so what a processor's store is, here is the record of Transport calls. -/

open Sys2Proof Sys2Proof.Machine

/-! ### Reset, steps, and the invariant -/

/-- R37: the values after a hardware reset. -/
def Obligations.ResetStateValues : Prop :=
  State.reset.life = .uninit ∧ State.reset.ss = .idle ∧ State.reset.fanActive = false ∧
  State.reset.valid.mass = false ∧ State.reset.valid.count = false ∧ State.reset.valid.size = false ∧
  State.reset.errCum = 0 ∧ State.reset.errLast = 0 ∧ State.reset.winN = 1 ∧ State.reset.winLen = 0

/-- R39 at reset. -/
def Obligations.ResetStateMeetsInvariant : Prop := State.reset.Inv

/-- R39: every step of every state that meets the invariant gives a state that meets it; operations, unknown selectors,
hardware resets and interrupted operations alike, whatever the Transport answers. -/
def Obligations.StepKeepsInvariant : Prop :=
  ∀ s t : State, s.Inv → step s = .next t → t.Inv

/-- A step runs the decoded instruction, on the state from whose moves the request has been taken (the list of moves is the
model's, entry 1). -/
def Obligations.StepRunsDecodedInstruction : Prop :=
  ∀ (s : State) (r : Request) (ms : List HostMove) (i : Instr),
    s.moves = .operation r :: ms → decode r = .ok i → step s = exec i { s with moves := ms }

/-- R210: the four refusals of the prologue, in their order, none of which writes state or makes a Transport call. -/
def Obligations.PrologueRefusals : Prop :=
  (∀ (i : Instr) (s : State), s.life = .fatal →
    exec i s = .next { s with results := s.results ++ [.err (.busResetFatal .sticky)] }) ∧
  (∀ (i : Instr) (s : State), s.life = .uninit → (∀ n, i ≠ .init n) →
    exec i s = .next { s with results := s.results ++ [.err (.notReady i.operation.opsel)] }) ∧
  (∀ (n : Nat) (s : State), s.life = .ready →
    exec (.init n) s = .next { s with results := s.results ++ [.err (.illegalState .init (.life .ready))] }) ∧
  (∀ (s : State) (r : Request) (ms : List HostMove), s.moves = .operation r :: ms → 18 ≤ r.opsel.toNat →
    (s.life = .fatal → step s = .next { s with moves := ms, results := s.results ++ [.err (.busResetFatal .sticky)] }) ∧
    (s.life ≠ .fatal → step s = .next { s with moves := ms, results := s.results ++ [.err (.unknownOp r.opsel)] }))

/-- R259, R293: once `Fatal`, every operation is refused, however many the host issues; the block's tuple stays and no
Transport call is made. -/
def Obligations.FatalRefusesEveryOperation : Prop :=
  ∀ (rs : List Request) (s : State), s.life = .fatal → s.moves = rs.map HostMove.operation →
    ∃ t : State, Sys2Proof.core.run rs.length s = .next t ∧ t.tuple = s.tuple ∧ t.env = s.env ∧ t.params = s.params ∧
      t.moves = [] ∧ t.results = s.results ++ List.replicate rs.length (.err (.busResetFatal .sticky))

/-- R280 (a): a hardware reset puts every element at its reset value, leaves even `Fatal`, and sends nothing on the bus. -/
def Obligations.HardwareResetRestoresTuple : Prop :=
  ∀ (s : State) (ms : List HostMove), s.moves = .hardwareReset :: ms →
    step s = .next { s with
      moves := ms, life := .uninit, ss := .idle, fanActive := false, valid := ⟨false, false, false⟩,
      errCum := 0, errLast := 0, winN := 1, wbuf := [] }

/-- R287, R296: a hardware reset after `k` Transport calls of an operation leaves the block at its reset values and
delivers no result; of the calls the operation would have made, the first `k` are made and no other. That the cut falls between
Transport calls is the model's choice (entry 14). -/
def Obligations.InterruptedOperationResets : Prop :=
  ∀ (s : State) (r : Request) (k : Nat) (ms : List HostMove), s.moves = .interrupted r k :: ms →
    ∃ u t : State, runRequest r { s with moves := ms } = .next u ∧ step s = .next t ∧ t.tuple = resetTuple ∧
      t.params = s.params ∧ t.moves = ms ∧ t.results = s.results ∧
      t.env.calls = u.env.calls.take (s.env.calls.length + k)

/-! ### The host encoding -/

/-- R90, R91: decode and encode agree on every instruction the host can name, also through the numbering of the opcode
table; a request that decodes is the encoding of its instruction up to an ignored `ARG`; and exactly the selectors 18 to 31
are rejected. Where `ARG` stands in a table word is the model's choice (entry 2). -/
def Obligations.DecodeEncodeAgree : Prop :=
  (∀ i : Instr, i.wellFormed = true → decode (encode i) = .ok i ∧
    decodeTableWord 40 ((encode i).opsel.toNat + 256 * (encode i).arg.toNat) = some i) ∧
  (∀ (r : Request) (i : Instr), decode r = .ok i → i.wellFormed = true ∧ (encode i).opsel = r.opsel ∧
    (i.operation = .init ∨ i.operation = .setWindow ∨ i.operation = .writeAutoclean → (encode i).arg = r.arg)) ∧
  (∀ r : Request, decode r = .error (.unknownOp r.opsel) ↔ 18 ≤ r.opsel.toNat)

/-- The eighteen `OPSEL` codes of R90, and the fourteen that name no operation (R91), read from the words of the opcode table
(whose layout beyond the selector is the model's, entry 2). -/
def Obligations.SelectorTableWords : Prop :=
  decodeTableWord 8 0x00 = some (.init 0) ∧ decodeTableWord 8 0x01 = some .startMeas ∧
  decodeTableWord 8 0x02 = some .stopMeas ∧ decodeTableWord 8 0x03 = some .readDataReady ∧
  decodeTableWord 8 0x04 = some .readMeas ∧ decodeTableWord 8 0x05 = some .sleep ∧
  decodeTableWord 8 0x06 = some .wakeup ∧ decodeTableWord 8 0x07 = some .startFanClean ∧
  decodeTableWord 8 0x08 = some .readAutoclean ∧ decodeTableWord 8 0x09 = some (.writeAutoclean 0) ∧
  decodeTableWord 8 0x0A = some .readProductType ∧ decodeTableWord 8 0x0B = some .readSerial ∧
  decodeTableWord 8 0x0C = some .readFwVersion ∧ decodeTableWord 8 0x0D = some .readStatus ∧
  decodeTableWord 8 0x0E = some .clearStatus ∧ decodeTableWord 8 0x0F = some .reset ∧
  decodeTableWord 8 0x10 = some (.setWindow 0) ∧ decodeTableWord 8 0x11 = some .deviceInfo ∧
  ∀ k, 18 ≤ k → k < 32 → decodeTableWord 8 k = none

/-! ### Checksum Engine -/

/-- R114, with the trace of R111 on the vector. -/
def Obligations.ChecksumReferenceVector : Prop :=
  checksum 0xBE 0xEF = 0x92 ∧
  (List.range 9).map (fun k => crcStep^[k] (0xFF ^^^ 0xBE)) = [0x41, 0x82, 0x35, 0x6A, 0xD4, 0x99, 0x03, 0x06, 0x0C] ∧
  (List.range 9).map (fun k => crcStep^[k] (0x0C ^^^ 0xEF)) = [0xE3, 0xF7, 0xDF, 0x8F, 0x2F, 0x5E, 0xBC, 0x49, 0x92]

/-- R115 (b): the checksum is affine over exclusive or, and not linear. -/
def Obligations.ChecksumIsAffine : Prop :=
  (∀ x0 x1 y0 y1 z0 z1 : Byte,
    checksum x0 x1 ^^^ checksum y0 y1 ^^^ checksum z0 z1 = checksum (x0 ^^^ y0 ^^^ z0) (x1 ^^^ y1 ^^^ z1)) ∧
  checksum 0x00 0x00 = 0x81 ∧ ∃ x0 x1 y0 y1 : Byte, checksum x0 x1 ^^^ checksum y0 y1 ≠ checksum (x0 ^^^ y0) (x1 ^^^ y1)

/-- R115 (a): a bijection in each byte, so that a valid packet with exactly one byte changed is not accepted. -/
def Obligations.ChecksumDetectsOneBadByte : Prop :=
  (∀ b0 : Byte, Function.Bijective (fun b1 => checksum b0 b1)) ∧
  (∀ b1 : Byte, Function.Bijective (fun b0 => checksum b0 b1)) ∧
  (∀ d0 d1 c x : Byte, packetOk d0 d1 c = true →
    (x ≠ d0 → packetOk x d1 c = false) ∧ (x ≠ d1 → packetOk d0 x c = false) ∧ (x ≠ c → packetOk d0 d1 x = false))

/-- R113, R256: `ChecksumList` answers `ChecksumInputError` for any other length than two, and no operation reports that error. -/
def Obligations.ChecksumListRejectsOtherLengths : Prop :=
  (∀ b0 b1 : Byte, checksumList [b0, b1] = .ok (checksum b0 b1)) ∧
  (∀ s : List Byte, s.length ≠ 2 → checksumList s = .error (.checksumInput s.length)) ∧
  (∀ (i : Instr) (s t : State) (n : Nat), exec i s = .next t → t.results ≠ s.results ++ [.err (.checksumInput n)])

/-! ### Command Encoder -/

/-- R124: the fifteen frames, byte by byte. -/
def Obligations.EncoderFrames : Prop :=
  ∀ (p : Params) (cmd : BusCommand) (v : Word),
    encodeFrame p cmd v =
      if cmd = .startMeas then
        [p.opcode.startMeas.first, p.opcode.startMeas.second, p.startArg.first, p.startArg.second,
          checksum p.startArg.first p.startArg.second]
      else if cmd = .writeAutoclean then
        [p.opcode.writeAutoclean.first, p.opcode.writeAutoclean.second,
          BitVec.ofNat 8 (v.toNat / 2 ^ 8), BitVec.ofNat 8 v.toNat,
          checksum (BitVec.ofNat 8 (v.toNat / 2 ^ 8)) (BitVec.ofNat 8 v.toNat),
          BitVec.ofNat 8 (v.toNat / 2 ^ 24), BitVec.ofNat 8 (v.toNat / 2 ^ 16),
          checksum (BitVec.ofNat 8 (v.toNat / 2 ^ 24)) (BitVec.ofNat 8 (v.toNat / 2 ^ 16))]
      else [(perCommand p.opcode cmd).first, (perCommand p.opcode cmd).second]

/-- R127 (d): every frame has 2, 5 or 8 bytes, and every 3-byte group after the opcode checks. -/
def Obligations.EncoderGroupsCheck : Prop :=
  ∀ (p : Params) (cmd : BusCommand) (v : Word), ∃ g : Nat, g ≤ 2 ∧
    (encodeFrame p cmd v).length = 2 + 3 * g ∧ ∀ j < g, packetChecks (encodeFrame p cmd v) (2 + 3 * j) = true

/-! ### Response Decoder and counters -/

/-- R27: `CountError` saturates both counters and writes nothing else. -/
def Obligations.CountErrorSaturates : Prop :=
  ∀ s : State, s.countError = { s with
    errLast := if s.errLast.toNat < 2 ^ 32 - 1 then s.errLast + 1 else s.errLast
    errCum := if s.errCum.toNat < 2 ^ 32 - 1 then s.errCum + 1 else s.errCum }

/-- R144: the field is valid exactly when all its packets check, its data bytes are the packets' data bytes in wire order,
and an invalid field is counted once. -/
def Obligations.FieldDecodeVerdict : Prop :=
  ∀ (raw : List Byte) (off k : Nat) (s : State), off + 3 * k ≤ raw.length →
    ((∀ j < k, packetChecks raw (off + 3 * j) = true) → ∃ data, decodeField raw off k s = (some data, s) ∧
      data.length = 2 * k ∧ ∀ j < k, data.getD (2 * j) 0 = raw.getD (off + 3 * j) 0 ∧
        data.getD (2 * j + 1) 0 = raw.getD (off + 3 * j + 1) 0) ∧
    ((∃ j < k, packetChecks raw (off + 3 * j) = false) → decodeField raw off k s = (none, s.countError))

/-! ### Reading commands -/

/-- R214, R223: the Word16 reads, on a response of the right length. -/
def Obligations.ReadWord16Results : Prop :=
  ∀ (s : State) (d0 d1 c : Byte), s.life = .ready → s.env.nextWrite = .ok → s.env.nextRead = .bytes [d0, d1, c] →
    (checksum d0 d1 = c →
      exec .readDataReady s = .next { s with
        errLast := 0
        env := s.env.exchanged s.params [s.params.opcode.readDataReady.first, s.params.opcode.readDataReady.second]
          s.params.settle.readDataReady 3 [d0, d1, c]
        results := s.results ++ [.word16Out true (BitVec.ofNat 16 (256 * d0.toNat + d1.toNat))] } ∧
      exec .readFwVersion s = .next { s with
        errLast := 0
        env := s.env.exchanged s.params [s.params.opcode.readFwVersion.first, s.params.opcode.readFwVersion.second]
          s.params.settle.readFwVersion 3 [d0, d1, c]
        results := s.results ++ [.word16Out true (BitVec.ofNat 16 (256 * d0.toNat + d1.toNat))] }) ∧
    (checksum d0 d1 ≠ c →
      exec .readDataReady s = .next { s with
        errLast := 1
        errCum := counted s.errCum 1
        env := s.env.exchanged s.params [s.params.opcode.readDataReady.first, s.params.opcode.readDataReady.second]
          s.params.settle.readDataReady 3 [d0, d1, c]
        results := s.results ++ [.word16Out false 0] } ∧
      exec .readFwVersion s = .next { s with
        errLast := 1
        errCum := counted s.errCum 1
        env := s.env.exchanged s.params [s.params.opcode.readFwVersion.first, s.params.opcode.readFwVersion.second]
          s.params.settle.readFwVersion 3 [d0, d1, c]
        results := s.results ++ [.word16Out false 0] })

/-- R219, R224, R61, R87 (d), (e): the Word32 reads, on a response of the right length: halves little-endian for the
auto-clean interval, big-endian for the status register; one bad packet invalidates the whole word, one error counted. -/
def Obligations.ReadWord32Results : Prop :=
  ∀ (s : State) (d0 d1 c0 d2 d3 c1 : Byte), s.life = .ready → s.env.nextWrite = .ok →
    s.env.nextRead = .bytes [d0, d1, c0, d2, d3, c1] →
    (checksum d0 d1 = c0 ∧ checksum d2 d3 = c1 →
      exec .readAutoclean s = .next { s with
        errLast := 0
        env := s.env.exchanged s.params [s.params.opcode.readAutoclean.first, s.params.opcode.readAutoclean.second]
          s.params.settle.readAutoclean 6 [d0, d1, c0, d2, d3, c1]
        results := s.results ++ [.word32Out true
          (BitVec.ofNat 32 (2 ^ 24 * d2.toNat + 2 ^ 16 * d3.toNat + 2 ^ 8 * d0.toNat + d1.toNat))] } ∧
      exec .readStatus s = .next { s with
        errLast := 0
        env := s.env.exchanged s.params [s.params.opcode.readStatus.first, s.params.opcode.readStatus.second]
          s.params.settle.readStatus 6 [d0, d1, c0, d2, d3, c1]
        results := s.results ++ [.word32Out true
          (BitVec.ofNat 32 (2 ^ 24 * d0.toNat + 2 ^ 16 * d1.toNat + 2 ^ 8 * d2.toNat + d3.toNat))] }) ∧
    (checksum d0 d1 ≠ c0 ∨ checksum d2 d3 ≠ c1 →
      exec .readAutoclean s = .next { s with
        errLast := 1
        errCum := counted s.errCum 1
        env := s.env.exchanged s.params [s.params.opcode.readAutoclean.first, s.params.opcode.readAutoclean.second]
          s.params.settle.readAutoclean 6 [d0, d1, c0, d2, d3, c1]
        results := s.results ++ [.word32Out false 0] } ∧
      exec .readStatus s = .next { s with
        errLast := 1
        errCum := counted s.errCum 1
        env := s.env.exchanged s.params [s.params.opcode.readStatus.first, s.params.opcode.readStatus.second]
          s.params.settle.readStatus 6 [d0, d1, c0, d2, d3, c1]
        results := s.results ++ [.word32Out false 0] })

/-- R221, R222, R151: the text reads, on a response of the right length: the data bytes in wire order, or an empty list
and one error counted if any packet is bad. -/
def Obligations.ReadTextResults : Prop :=
  ∀ (s : State) (raw : List Byte), s.life = .ready → s.env.nextWrite = .ok → s.env.nextRead = .bytes raw →
    (raw.length = 12 → (∀ j < 4, packetChecks raw (3 * j) = true) →
      exec .readProductType s = .next { s with
        errLast := 0
        env := s.env.exchanged s.params [s.params.opcode.readProductType.first, s.params.opcode.readProductType.second]
          s.params.settle.readProductType 12 raw
        results := s.results ++
          [.bytesOut true ((List.range 4).flatMap fun j => [raw.getD (3 * j) 0, raw.getD (3 * j + 1) 0])] }) ∧
    (raw.length = 12 → (∃ j < 4, packetChecks raw (3 * j) = false) →
      exec .readProductType s = .next { s with
        errLast := 1
        errCum := counted s.errCum 1
        env := s.env.exchanged s.params [s.params.opcode.readProductType.first, s.params.opcode.readProductType.second]
          s.params.settle.readProductType 12 raw
        results := s.results ++ [.bytesOut false []] }) ∧
    (raw.length = 48 → (∀ j < 16, packetChecks raw (3 * j) = true) →
      exec .readSerial s = .next { s with
        errLast := 0
        env := s.env.exchanged s.params [s.params.opcode.readSerial.first, s.params.opcode.readSerial.second]
          s.params.settle.readSerial 48 raw
        results := s.results ++
          [.bytesOut true ((List.range 16).flatMap fun j => [raw.getD (3 * j) 0, raw.getD (3 * j + 1) 0])] }) ∧
    (raw.length = 48 → (∃ j < 16, packetChecks raw (3 * j) = false) →
      exec .readSerial s = .next { s with
        errLast := 1
        errCum := counted s.errCum 1
        env := s.env.exchanged s.params [s.params.opcode.readSerial.first, s.params.opcode.readSerial.second]
          s.params.settle.readSerial 48 raw
        results := s.results ++ [.bytesOut false []] })

/-- R254: a response of another length than the command's is not decoded; nothing is counted, no bus reset is made. -/
def Obligations.LengthMismatchResult : Prop :=
  ∀ (i : Instr) (cmd : BusCommand) (s : State) (raw : List Byte),
    busCommandOf i = some cmd → rlen cmd ≠ 0 → legalIn cmd s.ss = true → s.life = .ready →
    s.env.nextWrite = .ok → s.env.nextRead = .bytes raw → raw.length ≠ rlen cmd →
    exec i s = .next { s with
      errLast := 0
      env := s.env.exchanged s.params (encodeFrame s.params cmd 0) (perCommand s.params.settle cmd) (rlen cmd) raw
      results := s.results ++ [.err (.lengthMismatch (rlen cmd) raw.length)] }

/-- R56, R252, R259: a bus command whose write fails: one bus reset, no settle delay, no read, no retry; `LIFE` becomes
`Fatal` when the bus reset fails, and nothing else but `ERR_LAST` of a reading command is written. -/
def Obligations.WriteFailureResult : Prop :=
  ∀ (i : Instr) (cmd : BusCommand) (s : State),
    busCommandOf i = some cmd → legalIn cmd s.ss = true → s.life = .ready → s.env.nextWrite = .ioFail →
    exec i s = .next { s with
      life := lifeAfterIoFail s.env.nextReset .ready
      errLast := errLastBegun cmd s
      env := s.env.writeFailed s.params (encodeFrame s.params cmd i.argument)
      results := s.results ++ [.err (ioError s.env.nextReset .write)] }

/-- R57, R252, R259: a reading command whose read fails. -/
def Obligations.ReadFailureResult : Prop :=
  ∀ (i : Instr) (cmd : BusCommand) (s : State),
    busCommandOf i = some cmd → rlen cmd ≠ 0 → legalIn cmd s.ss = true → s.life = .ready →
    s.env.nextWrite = .ok → s.env.nextRead = .ioFail →
    exec i s = .next { s with
      life := lifeAfterIoFail s.env.nextReset .ready
      errLast := 0
      env := s.env.readFailed s.params (encodeFrame s.params cmd 0) (perCommand s.params.settle cmd) (rlen cmd)
      results := s.results ++ [.err (ioError s.env.nextReset .read)] }

/-! ### Mode-changing commands -/

/-- R212. -/
def Obligations.StartMeasResult : Prop :=
  ∀ s : State, s.life = .ready →
    (s.ss ≠ .idle →
      exec .startMeas s = .next { s with results := s.results ++ [.err (.illegalState .startMeas (.session s.ss))] }) ∧
    (s.ss = .idle → s.env.nextWrite = .ok → exec .startMeas s = .next { s with
      ss := .measuring
      fanActive := true
      valid := ⟨false, false, false⟩
      env := s.env.sent s.params [s.params.opcode.startMeas.first, s.params.opcode.startMeas.second,
        s.params.startArg.first, s.params.startArg.second, checksum s.params.startArg.first s.params.startArg.second]
        s.params.settle.startMeas
      results := s.results ++ [.done] })

/-- R213. -/
def Obligations.StopMeasResult : Prop :=
  ∀ s : State, s.life = .ready →
    (s.ss ≠ .measuring →
      exec .stopMeas s = .next { s with results := s.results ++ [.err (.illegalState .stopMeas (.session s.ss))] }) ∧
    (s.ss = .measuring → s.env.nextWrite = .ok → exec .stopMeas s = .next { s with
      ss := .idle
      fanActive := false
      env := s.env.sent s.params [s.params.opcode.stopMeas.first, s.params.opcode.stopMeas.second]
        s.params.settle.stopMeas
      results := s.results ++ [.done] })

/-- R216. -/
def Obligations.SleepResult : Prop :=
  ∀ s : State, s.life = .ready →
    (s.ss = .sleeping →
      exec .sleep s = .next { s with results := s.results ++ [.err (.illegalState .sleep (.session .sleeping))] }) ∧
    (s.ss ≠ .sleeping → s.env.nextWrite = .ok → exec .sleep s = .next { s with
      ss := .sleeping
      fanActive := false
      env := s.env.sent s.params [s.params.opcode.sleep.first, s.params.opcode.sleep.second] s.params.settle.sleep
      results := s.results ++ [.done] })

/-- R217. -/
def Obligations.WakeupResult : Prop :=
  ∀ s : State, s.life = .ready →
    (s.ss ≠ .sleeping →
      exec .wakeup s = .next { s with results := s.results ++ [.err (.illegalState .wakeup (.session s.ss))] }) ∧
    (s.ss = .sleeping → s.env.nextWrite = .ok → exec .wakeup s = .next { s with
      ss := .idle
      env := s.env.sent s.params [s.params.opcode.wakeup.first, s.params.opcode.wakeup.second] s.params.settle.wakeup
      results := s.results ++ [.done] })

/-- R226: legal in every `SS`. -/
def Obligations.ResetCommandResult : Prop :=
  ∀ s : State, s.life = .ready → s.env.nextWrite = .ok → exec .reset s = .next { s with
    ss := .idle
    fanActive := false
    errCum := 0
    errLast := 0
    env := s.env.sent s.params [s.params.opcode.reset.first, s.params.opcode.reset.second] s.params.settle.reset
    results := s.results ++ [.done] }

/-- R22, R230: `SS` changes only by these arrows, each only when the command's write succeeded. -/
def Obligations.SessionChangesOnlyByArrows : Prop :=
  ∀ (i : Instr) (s t : State), exec i s = .next t → t.ss ≠ s.ss →
    (∃ n, i = .init n ∧ s.life = .uninit ∧ t.life = .ready ∧ t.ss = .idle) ∨
    (s.life = .ready ∧ t.life = .ready ∧ s.env.nextWrite = .ok ∧ t.results = s.results ++ [.done] ∧
      ((i = .startMeas ∧ s.ss = .idle ∧ t.ss = .measuring) ∨ (i = .stopMeas ∧ s.ss = .measuring ∧ t.ss = .idle) ∨
       (i = .sleep ∧ s.ss ≠ .sleeping ∧ t.ss = .sleeping) ∨ (i = .wakeup ∧ s.ss = .sleeping ∧ t.ss = .idle) ∨
       (i = .reset ∧ t.ss = .idle)))

/-! ### Other write-only commands and local operations -/

/-- R218, R220, R225: the frame is sent, and no element of the block's tuple is written; the auto-clean interval goes out
low half first. -/
def Obligations.WriteOnlyResults : Prop :=
  ∀ (s : State) (v : Word), s.life = .ready → s.env.nextWrite = .ok →
    exec .startFanClean s = .next { s with
      env := s.env.sent s.params [s.params.opcode.startFanClean.first, s.params.opcode.startFanClean.second]
        s.params.settle.startFanClean
      results := s.results ++ [.done] } ∧
    exec .clearStatus s = .next { s with
      env := s.env.sent s.params [s.params.opcode.clearStatus.first, s.params.opcode.clearStatus.second]
        s.params.settle.clearStatus
      results := s.results ++ [.done] } ∧
    exec (.writeAutoclean v) s = .next { s with
      env := s.env.sent s.params
        [s.params.opcode.writeAutoclean.first, s.params.opcode.writeAutoclean.second,
          BitVec.ofNat 8 (v.toNat / 2 ^ 8), BitVec.ofNat 8 v.toNat,
          checksum (BitVec.ofNat 8 (v.toNat / 2 ^ 8)) (BitVec.ofNat 8 v.toNat),
          BitVec.ofNat 8 (v.toNat / 2 ^ 24), BitVec.ofNat 8 (v.toNat / 2 ^ 16),
          checksum (BitVec.ofNat 8 (v.toNat / 2 ^ 24)) (BitVec.ofNat 8 (v.toNat / 2 ^ 16))]
        s.params.settle.writeAutoclean
      results := s.results ++ [.done] }

/-- R211 past the prologue: the argument first, then the probe, then the clean session. -/
def Obligations.InitResult : Prop :=
  ∀ (n : Nat) (s : State), s.life = .uninit →
    (n = 0 ∨ nmax s.params < n → exec (.init n) s = .next { s with results := s.results ++ [.err (.windowConfig n)] }) ∧
    (1 ≤ n → n ≤ nmax s.params → s.env.nextProbe = .absent →
      exec (.init n) s = .next { s with env := s.env.probed s.params, results := s.results ++ [.err .connection] }) ∧
    (1 ≤ n → n ≤ nmax s.params → s.env.nextProbe = .present →
      exec (.init n) s = .next { s with
        life := .ready
        ss := .idle
        fanActive := false
        valid := ⟨false, false, false⟩
        errCum := 0
        errLast := 0
        winN := n
        wbuf := []
        env := s.env.probed s.params
        results := s.results ++ [.done] })

/-- R199, R200, R227: a legal size empties the window whether or not it is new; another writes nothing. -/
def Obligations.SetWindowResult : Prop :=
  ∀ (n : Nat) (s : State), s.life = .ready →
    (1 ≤ n → n ≤ nmax s.params →
      exec (.setWindow n) s = .next { s with winN := n, wbuf := [], results := s.results ++ [.done] }) ∧
    (n = 0 ∨ nmax s.params < n →
      exec (.setWindow n) s = .next { s with results := s.results ++ [.err (.windowConfig n)] })

/-! ### Measurement -/

/-- R255: outside `Measuring`, `READ_MEAS` writes no state and makes no Transport call; its empty result carries
`EC_NOT_MEASURING`. -/
def Obligations.NotMeasuringGuard : Prop :=
  (∀ s : State, s.life = .ready → s.ss ≠ .measuring →
    exec .readMeas s = .next { s with results := s.results ++ [.noFrame .notMeasuring] }) ∧
  (Result.noFrame .notMeasuring).code = .notMeasuring ∧ ErrorCode.notMeasuring.number = 5

/-- R215, R184, R195, R198: `READ_MEAS` on a 60-byte response: every invalid field counted, `VALID` written, a frame with an
invalid field rejected, an accepted one passed through (`N = 1`), or appended, the oldest frame evicted past `N`, and once the
window is full the mean frame returned: each lane the mean of that lane's words of the frames now in the window, oldest first,
under `MEAN_ARITH` (R195). -/
def Obligations.ReadMeasResult : Prop :=
  ∀ (s : State) (raw : List Byte), s.life = .ready → s.ss = .measuring → s.env.nextWrite = .ok →
    s.env.nextRead = .bytes raw → raw.length = 60 →
    let base : State := { s with
      errLast := counted 0 (invalidFields raw)
      errCum := counted s.errCum (invalidFields raw)
      valid := (measFrame raw).v
      env := s.env.exchanged s.params [s.params.opcode.readMeas.first, s.params.opcode.readMeas.second]
        s.params.settle.readMeas 60 raw }
    (invalidFields raw ≠ 0 →
      exec .readMeas s = .next { base with results := s.results ++ [.noFrame .rejected] }) ∧
    (invalidFields raw = 0 → s.winN = 1 →
      exec .readMeas s = .next { base with results := s.results ++ [.frameOut (measFrame raw)] }) ∧
    (invalidFields raw = 0 → s.winN ≠ 1 → s.wbuf.length + 1 < s.winN →
      exec .readMeas s = .next { base with
        wbuf := s.wbuf ++ [measFrame raw], results := s.results ++ [.noFrame .filling] }) ∧
    (invalidFields raw = 0 → s.winN ≠ 1 → s.wbuf.length + 1 = s.winN →
      ∃ m, IsMeanFrame s.params.meanArith (s.wbuf ++ [measFrame raw]) m ∧
        exec .readMeas s = .next { base with
          wbuf := s.wbuf ++ [measFrame raw], results := s.results ++ [.frameOut m] }) ∧
    (invalidFields raw = 0 → s.winN ≠ 1 → s.wbuf ≠ [] → s.wbuf.length = s.winN →
      ∃ m, IsMeanFrame s.params.meanArith (s.wbuf.drop 1 ++ [measFrame raw]) m ∧
        exec .readMeas s = .next { base with
          wbuf := s.wbuf.drop 1 ++ [measFrame raw], results := s.results ++ [.frameOut m] })

/-- R70, R177, R178, R179: field `i` is the two packets at `6i`; its word, its verdict, and the three section flags. -/
def Obligations.MeasurementFieldWords : Prop :=
  ∀ raw : List Byte, raw.length = 60 →
    (∀ i : Fin 10,
      (packetChecks raw (6 * i.val) = true ∧ packetChecks raw (6 * i.val + 3) = true →
        (measField raw i.val).1 = true ∧ ((measFrame raw).f.get i).toNat =
          2 ^ 24 * (raw.getD (6 * i.val) 0).toNat + 2 ^ 16 * (raw.getD (6 * i.val + 1) 0).toNat +
            2 ^ 8 * (raw.getD (6 * i.val + 3) 0).toNat + (raw.getD (6 * i.val + 4) 0).toNat) ∧
      (packetChecks raw (6 * i.val) = false ∨ packetChecks raw (6 * i.val + 3) = false →
        (measField raw i.val).1 = false ∧ (measFrame raw).f.get i = 0)) ∧
    ((measFrame raw).v.mass = true ↔ ∀ i < 10, sectionIndex i = 0 → (measField raw i).1 = true) ∧
    ((measFrame raw).v.count = true ↔ ∀ i < 10, sectionIndex i = 1 → (measField raw i).1 = true) ∧
    ((measFrame raw).v.size = true ↔ ∀ i < 10, sectionIndex i = 2 → (measField raw i).1 = true) ∧
    ((measFrame raw).v = ⟨true, true, true⟩ ↔ invalidFields raw = 0)

/-- The document's section independence (R179, R181, R186 (a)): if exactly one packet of field 9 is bad, the two other
sections are valid, one error is counted and no frame is returned. -/
def Obligations.SectionIndependence : Prop :=
  ∀ (s : State) (raw : List Byte) (b : Nat), s.life = .ready → s.ss = .measuring → s.env.nextWrite = .ok →
    s.env.nextRead = .bytes raw → raw.length = 60 → (b = 18 ∨ b = 19) → packetChecks raw (3 * b) = false →
    (∀ j < 20, j ≠ b → packetChecks raw (3 * j) = true) →
    ∃ t : State, exec .readMeas s = .next t ∧ t.valid = ⟨true, true, false⟩ ∧ t.errLast = 1 ∧
      t.results = s.results ++ [.noFrame .rejected] ∧ t.wbuf = s.wbuf

/-- R267: "callers always receive either a fully-valid frame or an explicit empty/absent result": every frame a step adds to
the results, or puts into the window, has all three flags. -/
def Obligations.NoPartialFrameDelivered : Prop :=
  ∀ s t : State, step s = .next t →
    (∀ f, Result.frameOut f ∈ t.results → Result.frameOut f ∈ s.results ∨ f.v = ⟨true, true, true⟩) ∧
    (∀ f ∈ t.wbuf, f ∈ s.wbuf ∨ f.v = ⟨true, true, true⟩)

/-- R192, R193, R203: from an empty window of `n > 1` frames, after any frames have been pushed in order, the window holds
the last `n` of them, oldest first. -/
def Obligations.WindowHoldsLastFrames : Prop :=
  ∀ (n : Nat) (frames : List Frame), 1 < n →
    frames.foldl (fun w f => pushWindow n f w) [] = frames.drop (frames.length - n)

/-! ### Errors, results, transactions, counters -/

/-- R262, R263: errors are precise. After an `Err` of an operation of at most one bus command, the tuple is as before but for
`LIFE` on the first bus-reset failure and `ERR_LAST` of a reading command that had begun; after an `Err` of `DEVICE_INFO` the
reads already done have moved the counters as well. -/
def Obligations.ErrorsArePrecise : Prop :=
  ∀ (i : Instr) (s t : State) (e : Error), exec i s = .next t → t.results = s.results ++ [.err e] →
    (i ≠ .deviceInfo → t.tuple = { s.tuple with
      life := if e.isFirstFatal then .fatal else s.life
      errLast := if e.inTransaction && readsResponse i then 0 else s.errLast }) ∧
    (i = .deviceInfo → t.tuple = { s.tuple with
      life := if e.isFirstFatal then .fatal else s.life
      errLast := if e.inTransaction then 0 else s.errLast
      errCum := t.errCum } ∧ s.errCum.toNat ≤ t.errCum.toNat ∧ t.errCum.toNat ≤ s.errCum.toNat + 4)

/-- R9, R234: every operation returns exactly one result, an `Err` or one of the operation's kind, and leaves the
parameters, the host's further moves, the earlier results and the earlier calls as they are. -/
def Obligations.OneResultPerOperation : Prop :=
  ∀ (i : Instr) (s : State), ∃ (t : State) (r : Result) (c : List Call), exec i s = .next t ∧
    t.results = s.results ++ [r] ∧ ((∃ e, r = .err e) ∨ resultFits i r) ∧
    t.params = s.params ∧ t.moves = s.moves ∧ t.env.calls = s.env.calls ++ c

/-- R64, R66, R228: the Transport calls of an operation, in order, all to `DEV_ADDR`; those of `DEVICE_INFO` are the calls of
its five reads up to the first `Err`, and none outside a session that is up. -/
def Obligations.BusTransactionShape : Prop :=
  ∀ (i : Instr) (s t : State), exec i s = .next t →
    ∃ c, t.env.calls = s.env.calls ++ c ∧ (i ≠ .deviceInfo → transactionFits s.params i c) ∧
      (i = .deviceInfo → s.life = .ready → readsFit s.params infoCommands c) ∧
      (i = .deviceInfo → s.life ≠ .ready → c = [])

/-- R286: "the most Transport calls one operation makes is sixteen". -/
def Obligations.AtMostSixteenCalls : Prop :=
  ∀ (i : Instr) (s t : State), exec i s = .next t → t.env.calls.length ≤ s.env.calls.length + 16

/-- R156: the bounds of `ERR_LAST` after an attempt, and when it is 0. -/
def Obligations.LastAttemptErrorBound : Prop :=
  ∀ (i : Instr) (cmd : BusCommand) (s t : State), busCommandOf i = some cmd → rlen cmd ≠ 0 →
    legalIn cmd s.ss = true → s.life = .ready → exec i s = .next t →
    (singleFieldRead cmd = true → t.errLast.toNat ≤ 1) ∧ (cmd = .readMeas → t.errLast.toNat ≤ 10) ∧
    (t.errLast = 0 ↔ s.env.nextWrite = .ioFail ∨ s.env.nextRead = .ioFail ∨
      ∃ raw, s.env.nextRead = .bytes raw ∧ (raw.length ≠ rlen cmd ∨
        (if cmd = .readMeas then invalidFields raw = 0 else invalidCount raw (packetCount cmd) = 0)))

/-- R25: `ERR_CUM` never decreases but by `RESET` (and by the `INIT` that makes the session). -/
def Obligations.CumulativeCounterMonotone : Prop :=
  ∀ (i : Instr) (s t : State), exec i s = .next t → i ≠ .reset → (∀ n, i = .init n → s.life ≠ .uninit) →
    s.errCum.toNat ≤ t.errCum.toNat

/-- What an instruction leaves unchanged, whatever it answers: the write-only commands and the reads (R214, R218 to R225, R228). -/
def Obligations.FramesOfWritesAndReads : Prop :=
  ∀ (i : Instr) (s t : State), exec i s = .next t →
    ((i = .startFanClean ∨ i = .clearStatus ∨ ∃ v, i = .writeAutoclean v) →
      t.tuple = { s.tuple with life := t.life } ∧ t.env.reads = s.env.reads ∧ t.env.probes = s.env.probes) ∧
    ((i = .readDataReady ∨ i = .readFwVersion ∨ i = .readAutoclean ∨ i = .readStatus ∨ i = .readProductType ∨
        i = .readSerial ∨ i = .deviceInfo) →
      t.tuple = { s.tuple with life := t.life, errCum := t.errCum, errLast := t.errLast } ∧
        t.env.probes = s.env.probes) ∧
    (i = .readMeas → t.tuple = { s.tuple with
      life := t.life, valid := t.valid, errCum := t.errCum, errLast := t.errLast, wbuf := t.wbuf } ∧
        t.env.probes = s.env.probes) ∧
    (t.life = s.life ∨ t.life = .fatal ∨ ∃ n, i = .init n)

/-- What an instruction leaves unchanged, whatever it answers: the mode-changing commands (R212, R213, R216, R217, R226) and
the local operations (R211, R227). -/
def Obligations.FramesOfModeAndLocal : Prop :=
  ∀ (i : Instr) (s t : State), exec i s = .next t →
    (i = .startMeas → t.tuple = { s.tuple with life := t.life, ss := t.ss, fanActive := t.fanActive, valid := t.valid }) ∧
    ((i = .stopMeas ∨ i = .sleep) → t.tuple = { s.tuple with life := t.life, ss := t.ss, fanActive := t.fanActive }) ∧
    (i = .wakeup → t.tuple = { s.tuple with life := t.life, ss := t.ss }) ∧
    (i = .reset → t.tuple = { s.tuple with
      life := t.life, ss := t.ss, fanActive := t.fanActive, errCum := t.errCum, errLast := t.errLast }) ∧
    ((i = .startMeas ∨ i = .stopMeas ∨ i = .sleep ∨ i = .wakeup ∨ i = .reset) →
      t.env.reads = s.env.reads ∧ t.env.probes = s.env.probes) ∧
    ((∃ n, i = .setWindow n) → t.tuple = { s.tuple with winN := t.winN, wbuf := t.wbuf } ∧ t.env = s.env) ∧
    ((∃ n, i = .init n) → t.env.writes = s.env.writes ∧ t.env.reads = s.env.reads ∧ t.env.resets = s.env.resets)

/-! ### Composite results -/

/-- R228: `DEVICE_INFO` when its five writes succeed and its five responses have the right lengths: the five exchanges in
order, one error counted per invalid item, `ERR_LAST` the status read's alone, and the record. That only the record reaches
the host, not the five results, is deduced (entry 24). -/
def Obligations.DeviceInfoResult : Prop :=
  ∀ (s : State) (pt sn fw ac st : List Byte), s.life = .ready →
    (∀ k < 5, (Answers.skip k s.env.writes).next Config.freeWrite = .ok) →
    (Answers.skip 0 s.env.reads).next Config.freeRead = .bytes pt →
    (Answers.skip 1 s.env.reads).next Config.freeRead = .bytes sn →
    (Answers.skip 2 s.env.reads).next Config.freeRead = .bytes fw →
    (Answers.skip 3 s.env.reads).next Config.freeRead = .bytes ac →
    (Answers.skip 4 s.env.reads).next Config.freeRead = .bytes st →
    pt.length = 12 → sn.length = 48 → fw.length = 3 → ac.length = 6 → st.length = 6 →
    let p := s.params
    let cum := counted s.errCum (invalidCount pt 4 + invalidCount sn 16 + invalidCount fw 1 + invalidCount ac 2 +
      invalidCount st 2)
    let last := counted 0 (invalidCount st 2)
    let exchange := fun (op : BytePair) (d n : Nat) (raw : List Byte) =>
      [Call.memWrite p.devAddr [op.first, op.second] .ok, Call.settle d, Call.memRead p.devAddr n (.bytes raw)]
    exec .deviceInfo s = .next { s with
      errCum := cum
      errLast := last
      env := { s.env with
        writes := Answers.skip 5 s.env.writes
        reads := Answers.skip 5 s.env.reads
        calls := s.env.calls ++
          exchange p.opcode.readProductType p.settle.readProductType 12 pt ++
          exchange p.opcode.readSerial p.settle.readSerial 48 sn ++
          exchange p.opcode.readFwVersion p.settle.readFwVersion 3 fw ++
          exchange p.opcode.readAutoclean p.settle.readAutoclean 6 ac ++
          exchange p.opcode.readStatus p.settle.readStatus 6 st }
      results := s.results ++ [.infoOut
        { productType := asBytes (fieldData pt 0 4)
          serial := asBytes (fieldData sn 0 16)
          firmware := asWord16 (fieldData fw 0 1)
          autocleanSeconds := asWord32LEH (fieldData ac 0 2)
          status := asWord32BE (fieldData st 0 2)
          statusFlags := statusFlags p (asWord32BE (fieldData st 0 2)).2
          measuring := s.ss == .measuring
          errCum := cum
          errLast := last
          valid := s.valid
          winN := s.winN }] }

/-- R228, R252, R254: `DEVICE_INFO` stops at the first of its five reads that ends in an `Err` and returns that `Err`. After
the reads `done` (each with its response), the write of the next command fails, or its read fails, or its response has another
length: no further call is made, and the reads already done have had their effect on `ERR_CUM`. That these return no result of
their own to the host is deduced (entry 24). -/
def Obligations.DeviceInfoStopsAtFirstErr : Prop :=
  ∀ (s : State) (done : List (BusCommand × List Byte)) (cmd : BusCommand) (rest : List BusCommand), s.life = .ready →
    infoCommands = done.map Prod.fst ++ cmd :: rest →
    (∀ j x, done[j]? = some x → (Answers.skip j s.env.writes).next Config.freeWrite = .ok ∧
      (Answers.skip j s.env.reads).next Config.freeRead = .bytes x.2 ∧ x.2.length = rlen x.1) →
    let p := s.params
    let k := done.length
    let write := (Answers.skip k s.env.writes).next Config.freeWrite
    let read := (Answers.skip k s.env.reads).next Config.freeRead
    let q := s.env.nextReset
    let calls := s.env.calls ++ done.flatMap fun x => exchangeCalls p x.1 x.2
    let base : State := { s with
      errCum := counted s.errCum (done.map fun x => invalidCount x.2 (packetCount x.1)).sum
      errLast := 0 }
    (write = .ioFail → exec .deviceInfo s = .next { base with
      life := lifeAfterIoFail q .ready
      env := { s.env with
        writes := Answers.skip (k + 1) s.env.writes
        reads := Answers.skip k s.env.reads
        resets := s.env.resets.rest
        calls := calls ++ [.memWrite p.devAddr (encodeFrame p cmd 0) .ioFail, .busReset q] }
      results := s.results ++ [.err (ioError q .write)] }) ∧
    (write = .ok → read = .ioFail → exec .deviceInfo s = .next { base with
      life := lifeAfterIoFail q .ready
      env := { s.env with
        writes := Answers.skip (k + 1) s.env.writes
        reads := Answers.skip (k + 1) s.env.reads
        resets := s.env.resets.rest
        calls := calls ++ [.memWrite p.devAddr (encodeFrame p cmd 0) .ok, .settle (perCommand p.settle cmd),
          .memRead p.devAddr (rlen cmd) .ioFail, .busReset q] }
      results := s.results ++ [.err (ioError q .read)] }) ∧
    (∀ raw, write = .ok → read = .bytes raw → raw.length ≠ rlen cmd → exec .deviceInfo s = .next { base with
      env := { s.env with
        writes := Answers.skip (k + 1) s.env.writes
        reads := Answers.skip (k + 1) s.env.reads
        calls := calls ++ exchangeCalls p cmd raw }
      results := s.results ++ [.err (.lengthMismatch (rlen cmd) raw.length)] })

/-- R87, R220, the document's round trip: a device that returns the two half-words it was sent, in the same order, makes
`READ_AUTOCLEAN` yield the interval that `WRITE_AUTOCLEAN` wrote, for every 32-bit value. -/
def Obligations.AutocleanRoundTrip : Prop :=
  ∀ (s : State) (v : Word) (ms : List HostMove), s.life = .ready →
    s.moves = .operation (encode (.writeAutoclean v)) :: .operation (encode .readAutoclean) :: ms →
    s.env.nextWrite = .ok → (Answers.skip 1 s.env.writes).next Config.freeWrite = .ok →
    s.env.nextRead = .bytes ((encodeFrame s.params .writeAutoclean v).drop 2) →
    ∃ u t : State, step s = .next u ∧ step u = .next t ∧ t.results = s.results ++ [.done, .word32Out true v] ∧
      t.tuple = { s.tuple with errLast := 0 } ∧ t.moves = ms

/-- R235. -/
def Obligations.StatusFlagBits : Prop :=
  (∀ (p : Params) (w : Word),
    (statusFlags p w).speed = decide (w.toNat / 2 ^ p.stBitSpeed.val % 2 = 1) ∧
    (statusFlags p w).laser = decide (w.toNat / 2 ^ p.stBitLaser.val % 2 = 1) ∧
    (statusFlags p w).fan = decide (w.toNat / 2 ^ p.stBitFan.val % 2 = 1)) ∧
  (∀ p : Params, p.stBitSpeed = 21 → p.stBitLaser = 5 → p.stBitFan = 4 →
    statusFlags p 0x00200030 = ⟨true, true, true⟩ ∧ statusFlags p 0x00000010 = ⟨false, false, true⟩)

/-! ### Float32 and the mean -/

/-- R161: the five classes, decided by `e` and `f` alone. -/
def Obligations.FloatClassTable : Prop :=
  ∀ w : Word, let e : Nat := w.toNat / 2 ^ 23 % 256; let f : Nat := w.toNat % 2 ^ 23
    (f32Class w = .zero ↔ e = 0 ∧ f = 0) ∧ (f32Class w = .subnormal ↔ e = 0 ∧ f ≠ 0) ∧
    (f32Class w = .normal ↔ 1 ≤ e ∧ e ≤ 254) ∧ (f32Class w = .infinity ↔ e = 255 ∧ f = 0) ∧
    (f32Class w = .nan ↔ e = 255 ∧ f ≠ 0)

/-- R162: the value of every word, in rational arithmetic, and the worked example, 10. -/
def Obligations.FloatValueFormula : Prop :=
  ∀ w : Word, let e : Nat := w.toNat / 2 ^ 23 % 256; let f : Nat := w.toNat % 2 ^ 23; let neg := decide (2 ^ 31 ≤ w.toNat)
    (e = 0 → f = 0 → f32Val w = .finite neg 0) ∧
    (e = 0 → f ≠ 0 → ∃ m, f32Val w = .finite neg m ∧
      (m : ℚ) * (2 : ℚ) ^ (-149 : ℤ) = (f : ℚ) / 2 ^ 23 * (2 : ℚ) ^ (-126 : ℤ)) ∧
    (1 ≤ e → e ≤ 254 → ∃ m, f32Val w = .finite neg m ∧
      (m : ℚ) * (2 : ℚ) ^ (-149 : ℤ) = (1 + (f : ℚ) / 2 ^ 23) * (2 : ℚ) ^ ((e : ℤ) - 127)) ∧
    (e = 255 → f = 0 → f32Val w = .infinity neg) ∧ (e = 255 → f ≠ 0 → f32Val w = .nan) ∧
    f32Val 0x41200000 = .finite false (10 * 2 ^ 149)

/-- R168: the document's seven decode vectors. -/
def Obligations.FloatDecodeVectors : Prop :=
  f32Val 0x00000000 = .finite false 0 ∧ f32Val 0x80000000 = .finite true 0 ∧ f32Val 0x3F800000 = .finite false (2 ^ 149) ∧
  (∃ m : Nat, f32Val 0x40490FDB = .finite false m ∧ |(m : ℝ) * (2 : ℝ) ^ (-149 : ℤ) - Real.pi| < (2 : ℝ) ^ (-22 : ℤ)) ∧
  f32Val 0x7F800000 = .infinity false ∧ f32Val 0xFF800000 = .infinity true ∧
  f32Val 0x7FC00000 = .nan ∧ floatEq (f32Val 0x7FC00000) (f32Val 0x7FC00000) = false

/-- R196, R205: the default mean. A quotient `p / q` is rounded to nearest, ties to even: the result is a 24-bit significand
scaled, no such magnitude is nearer, and on a tie the significand kept is even. Each addition of two finite values rounds their
exact sum so, and the division its exact quotient, a result of `2^128` or more (magnitudes are in units of `2^(-149)`) becoming
an infinity; an exact zero sum is `+0.0` unless both terms are negative. The sum starts at `+0.0` and takes the words oldest
first; the mean word has the value of that sum divided by `N`. How IEEE-754 rounds is the model's presumption (entry 19). -/
def Obligations.RoundingIsNearestEven : Prop :=
  let rounded : Bool → Nat → Nat → FloatValue := fun negative p q =>
    if 2 ^ 128 * 2 ^ 149 ≤ roundUnits p q then .infinity negative else .finite negative (roundUnits p q)
  (∀ p q : Nat, 0 < q → Representable (roundUnits p q) ∧
    (∀ m, Representable m → |(p : Int) - q * roundUnits p q| ≤ |(p : Int) - q * m|) ∧
    (∀ m, Representable m → m ≠ roundUnits p q → |(p : Int) - q * roundUnits p q| = |(p : Int) - q * m| →
      ∃ a e : Nat, roundUnits p q = a * 2 ^ e ∧ a % 2 = 0 ∧ a ≤ 2 ^ 24 ∧ (e = 0 ∨ 2 ^ 23 ≤ a))) ∧
  (∀ (a b : Bool) (m n : Nat), let z := (FloatValue.finite a m).toInt + (FloatValue.finite b n).toInt
    fadd32 (.finite a m) (.finite b n) = if z = 0 then .finite (a && b) 0 else rounded (decide (z < 0)) z.natAbs 1) ∧
  (∀ (a b : Bool) (m n : Nat), n ≠ 0 → fdiv32 (.finite a m) (.finite b n) = rounded (a != b) (m * 2 ^ 149) n) ∧
  (∀ n : Nat, n ≤ 2 ^ 24 → cvt32 n = .finite false (n * 2 ^ 149)) ∧
  floatSum [] = .finite false 0 ∧ (∀ (ws : List Word) (w : Word), floatSum (ws ++ [w]) = fadd32 (floatSum ws) (f32Val w)) ∧
  ∀ ws : List Word, 1 < ws.length → ws.length ≤ 2 ^ 24 →
    f32Val (mean32 .binary32 ws) = fdiv32 (floatSum ws) (cvt32 ws.length)

/-- P2 of R196: "if every input is finite and every partial sum and the quotient are exactly representable in binary32,
the result is the exact mean". The arithmetic is the model's presumption (entry 19). -/
def Obligations.DefaultMeanIsExact : Prop :=
  ∀ ws : List Word, 1 < ws.length → ws.length ≤ 2 ^ 24 → (∀ w ∈ ws, (f32Val w).isFinite = true) →
    (∀ k ≤ ws.length, Representable ((ws.take k).map fun w => (f32Val w).toInt).sum.natAbs ∧
      ((ws.take k).map fun w => (f32Val w).toInt).sum.natAbs < overflowUnits) →
    ∀ q : Int, (ws.map fun w => (f32Val w).toInt).sum = ws.length * q → Representable q.natAbs →
      (f32Val (mean32 .binary32 ws)).isFinite = true ∧ (f32Val (mean32 .binary32 ws)).toInt = q

/-- P3 of R196: the mean of `n` copies of one finite non-zero word is that word, when every partial sum is exact. The
arithmetic is the model's presumption (entry 19). -/
def Obligations.DefaultMeanOfConstant : Prop :=
  ∀ (x : Word) (n m : Nat) (neg : Bool), 1 < n → n ≤ 2 ^ 24 → f32Val x = .finite neg m → m ≠ 0 →
    (∀ k ≤ n, Representable (k * m)) → n * m < overflowUnits → mean32 .binary32 (List.replicate n x) = x

/-- P4 of R196: "the result of an all-finite window whose sum does not overflow is finite". The arithmetic is the model's
presumption (entry 19). -/
def Obligations.DefaultMeanStaysFinite : Prop :=
  ∀ ws : List Word, 1 < ws.length → ws.length ≤ 2 ^ 24 → (∀ w ∈ ws, (f32Val w).isFinite = true) →
    (floatSum ws).isFinite = true → (f32Val (mean32 .binary32 ws)).isFinite = true

/-- R204: infinities, NaN and overflow under the default mean. A lane with an infinity of one sign only yields it, provided
the finite words before it have not overflowed to the other one (entry 23: there R196 gives a NaN). The arithmetic is the
model's presumption (entry 19). -/
def Obligations.DefaultMeanSpecials : Prop :=
  ∀ ws : List Word, 1 < ws.length → ws.length ≤ 2 ^ 24 →
    ((∃ w ∈ ws, f32Val w = .nan) → f32Val (mean32 .binary32 ws) = .nan) ∧
    ((∃ w ∈ ws, f32Val w = .infinity false) → (∃ w ∈ ws, f32Val w = .infinity true) →
      f32Val (mean32 .binary32 ws) = .nan) ∧
    (∀ neg : Bool, (∃ w ∈ ws, f32Val w = .infinity neg) → (∀ w ∈ ws, f32Val w ≠ .nan ∧ f32Val w ≠ .infinity (!neg)) →
      (floatSum (ws.takeWhile fun w => (f32Val w).isFinite)).isFinite = true →
      f32Val (mean32 .binary32 ws) = .infinity neg) ∧
    ((∀ w ∈ ws, (f32Val w).isFinite = true) → (floatSum ws).isFinite = false →
      ∃ neg, f32Val (mean32 .binary32 ws) = .infinity neg) ∧
    ((∀ w ∈ ws, w = 0x80000000) → mean32 .binary32 ws = 0x00000000)
end

