-- ==== Sys2Proof/Laws/State.lean ====
section
/-! SUPPORT. What each named update of the state leaves in each field: one lemma per field per update, true by definition. -/

namespace Sys2Proof.Machine

/-! ### setLife -/

@[simp] theorem State.setLife_params (s : State) (l : Life) : (s.setLife l).params = s.params := rfl
@[simp] theorem State.setLife_life (s : State) (l : Life) : (s.setLife l).life = l := rfl
@[simp] theorem State.setLife_ss (s : State) (l : Life) : (s.setLife l).ss = s.ss := rfl
@[simp] theorem State.setLife_fanActive (s : State) (l : Life) : (s.setLife l).fanActive = s.fanActive := rfl
@[simp] theorem State.setLife_valid (s : State) (l : Life) : (s.setLife l).valid = s.valid := rfl
@[simp] theorem State.setLife_errCum (s : State) (l : Life) : (s.setLife l).errCum = s.errCum := rfl
@[simp] theorem State.setLife_errLast (s : State) (l : Life) : (s.setLife l).errLast = s.errLast := rfl
@[simp] theorem State.setLife_winN (s : State) (l : Life) : (s.setLife l).winN = s.winN := rfl
@[simp] theorem State.setLife_wbuf (s : State) (l : Life) : (s.setLife l).wbuf = s.wbuf := rfl
@[simp] theorem State.setLife_env (s : State) (l : Life) : (s.setLife l).env = s.env := rfl
@[simp] theorem State.setLife_moves (s : State) (l : Life) : (s.setLife l).moves = s.moves := rfl
@[simp] theorem State.setLife_results (s : State) (l : Life) : (s.setLife l).results = s.results := rfl

/-! ### setSession -/

@[simp] theorem State.setSession_params (s : State) (ss : Session) : (s.setSession ss).params = s.params := rfl
@[simp] theorem State.setSession_life (s : State) (ss : Session) : (s.setSession ss).life = s.life := rfl
@[simp] theorem State.setSession_ss (s : State) (ss : Session) : (s.setSession ss).ss = ss := rfl
@[simp] theorem State.setSession_fanActive (s : State) (ss : Session) : (s.setSession ss).fanActive = s.fanActive := rfl
@[simp] theorem State.setSession_valid (s : State) (ss : Session) : (s.setSession ss).valid = s.valid := rfl
@[simp] theorem State.setSession_errCum (s : State) (ss : Session) : (s.setSession ss).errCum = s.errCum := rfl
@[simp] theorem State.setSession_errLast (s : State) (ss : Session) : (s.setSession ss).errLast = s.errLast := rfl
@[simp] theorem State.setSession_winN (s : State) (ss : Session) : (s.setSession ss).winN = s.winN := rfl
@[simp] theorem State.setSession_wbuf (s : State) (ss : Session) : (s.setSession ss).wbuf = s.wbuf := rfl
@[simp] theorem State.setSession_env (s : State) (ss : Session) : (s.setSession ss).env = s.env := rfl
@[simp] theorem State.setSession_moves (s : State) (ss : Session) : (s.setSession ss).moves = s.moves := rfl
@[simp] theorem State.setSession_results (s : State) (ss : Session) : (s.setSession ss).results = s.results := rfl

/-! ### setMode -/

@[simp] theorem State.setMode_params (s : State) (ss : Session) (fan : Bool) : (s.setMode ss fan).params = s.params := rfl
@[simp] theorem State.setMode_life (s : State) (ss : Session) (fan : Bool) : (s.setMode ss fan).life = s.life := rfl
@[simp] theorem State.setMode_ss (s : State) (ss : Session) (fan : Bool) : (s.setMode ss fan).ss = ss := rfl
@[simp] theorem State.setMode_fanActive (s : State) (ss : Session) (fan : Bool) : (s.setMode ss fan).fanActive = fan := rfl
@[simp] theorem State.setMode_valid (s : State) (ss : Session) (fan : Bool) : (s.setMode ss fan).valid = s.valid := rfl
@[simp] theorem State.setMode_errCum (s : State) (ss : Session) (fan : Bool) : (s.setMode ss fan).errCum = s.errCum := rfl
@[simp] theorem State.setMode_errLast (s : State) (ss : Session) (fan : Bool) : (s.setMode ss fan).errLast = s.errLast := rfl
@[simp] theorem State.setMode_winN (s : State) (ss : Session) (fan : Bool) : (s.setMode ss fan).winN = s.winN := rfl
@[simp] theorem State.setMode_wbuf (s : State) (ss : Session) (fan : Bool) : (s.setMode ss fan).wbuf = s.wbuf := rfl
@[simp] theorem State.setMode_env (s : State) (ss : Session) (fan : Bool) : (s.setMode ss fan).env = s.env := rfl
@[simp] theorem State.setMode_moves (s : State) (ss : Session) (fan : Bool) : (s.setMode ss fan).moves = s.moves := rfl
@[simp] theorem State.setMode_results (s : State) (ss : Session) (fan : Bool) : (s.setMode ss fan).results = s.results := rfl

/-! ### setValid -/

@[simp] theorem State.setValid_params (s : State) (v : Sections) : (s.setValid v).params = s.params := rfl
@[simp] theorem State.setValid_life (s : State) (v : Sections) : (s.setValid v).life = s.life := rfl
@[simp] theorem State.setValid_ss (s : State) (v : Sections) : (s.setValid v).ss = s.ss := rfl
@[simp] theorem State.setValid_fanActive (s : State) (v : Sections) : (s.setValid v).fanActive = s.fanActive := rfl
@[simp] theorem State.setValid_valid (s : State) (v : Sections) : (s.setValid v).valid = v := rfl
@[simp] theorem State.setValid_errCum (s : State) (v : Sections) : (s.setValid v).errCum = s.errCum := rfl
@[simp] theorem State.setValid_errLast (s : State) (v : Sections) : (s.setValid v).errLast = s.errLast := rfl
@[simp] theorem State.setValid_winN (s : State) (v : Sections) : (s.setValid v).winN = s.winN := rfl
@[simp] theorem State.setValid_wbuf (s : State) (v : Sections) : (s.setValid v).wbuf = s.wbuf := rfl
@[simp] theorem State.setValid_env (s : State) (v : Sections) : (s.setValid v).env = s.env := rfl
@[simp] theorem State.setValid_moves (s : State) (v : Sections) : (s.setValid v).moves = s.moves := rfl
@[simp] theorem State.setValid_results (s : State) (v : Sections) : (s.setValid v).results = s.results := rfl

/-! ### clearCounters -/

@[simp] theorem State.clearCounters_params (s : State) : (s.clearCounters).params = s.params := rfl
@[simp] theorem State.clearCounters_life (s : State) : (s.clearCounters).life = s.life := rfl
@[simp] theorem State.clearCounters_ss (s : State) : (s.clearCounters).ss = s.ss := rfl
@[simp] theorem State.clearCounters_fanActive (s : State) : (s.clearCounters).fanActive = s.fanActive := rfl
@[simp] theorem State.clearCounters_valid (s : State) : (s.clearCounters).valid = s.valid := rfl
@[simp] theorem State.clearCounters_errCum (s : State) : (s.clearCounters).errCum = 0 := rfl
@[simp] theorem State.clearCounters_errLast (s : State) : (s.clearCounters).errLast = 0 := rfl
@[simp] theorem State.clearCounters_winN (s : State) : (s.clearCounters).winN = s.winN := rfl
@[simp] theorem State.clearCounters_wbuf (s : State) : (s.clearCounters).wbuf = s.wbuf := rfl
@[simp] theorem State.clearCounters_env (s : State) : (s.clearCounters).env = s.env := rfl
@[simp] theorem State.clearCounters_moves (s : State) : (s.clearCounters).moves = s.moves := rfl
@[simp] theorem State.clearCounters_results (s : State) : (s.clearCounters).results = s.results := rfl

/-! ### startAttempt -/

@[simp] theorem State.startAttempt_params (s : State) : (s.startAttempt).params = s.params := rfl
@[simp] theorem State.startAttempt_life (s : State) : (s.startAttempt).life = s.life := rfl
@[simp] theorem State.startAttempt_ss (s : State) : (s.startAttempt).ss = s.ss := rfl
@[simp] theorem State.startAttempt_fanActive (s : State) : (s.startAttempt).fanActive = s.fanActive := rfl
@[simp] theorem State.startAttempt_valid (s : State) : (s.startAttempt).valid = s.valid := rfl
@[simp] theorem State.startAttempt_errCum (s : State) : (s.startAttempt).errCum = s.errCum := rfl
@[simp] theorem State.startAttempt_errLast (s : State) : (s.startAttempt).errLast = 0 := rfl
@[simp] theorem State.startAttempt_winN (s : State) : (s.startAttempt).winN = s.winN := rfl
@[simp] theorem State.startAttempt_wbuf (s : State) : (s.startAttempt).wbuf = s.wbuf := rfl
@[simp] theorem State.startAttempt_env (s : State) : (s.startAttempt).env = s.env := rfl
@[simp] theorem State.startAttempt_moves (s : State) : (s.startAttempt).moves = s.moves := rfl
@[simp] theorem State.startAttempt_results (s : State) : (s.startAttempt).results = s.results := rfl

/-! ### setWindow -/

@[simp] theorem State.setWindow_params (s : State) (n : Nat) : (s.setWindow n).params = s.params := rfl
@[simp] theorem State.setWindow_life (s : State) (n : Nat) : (s.setWindow n).life = s.life := rfl
@[simp] theorem State.setWindow_ss (s : State) (n : Nat) : (s.setWindow n).ss = s.ss := rfl
@[simp] theorem State.setWindow_fanActive (s : State) (n : Nat) : (s.setWindow n).fanActive = s.fanActive := rfl
@[simp] theorem State.setWindow_valid (s : State) (n : Nat) : (s.setWindow n).valid = s.valid := rfl
@[simp] theorem State.setWindow_errCum (s : State) (n : Nat) : (s.setWindow n).errCum = s.errCum := rfl
@[simp] theorem State.setWindow_errLast (s : State) (n : Nat) : (s.setWindow n).errLast = s.errLast := rfl
@[simp] theorem State.setWindow_winN (s : State) (n : Nat) : (s.setWindow n).winN = n := rfl
@[simp] theorem State.setWindow_wbuf (s : State) (n : Nat) : (s.setWindow n).wbuf = [] := rfl
@[simp] theorem State.setWindow_env (s : State) (n : Nat) : (s.setWindow n).env = s.env := rfl
@[simp] theorem State.setWindow_moves (s : State) (n : Nat) : (s.setWindow n).moves = s.moves := rfl
@[simp] theorem State.setWindow_results (s : State) (n : Nat) : (s.setWindow n).results = s.results := rfl

/-! ### setWbuf -/

@[simp] theorem State.setWbuf_params (s : State) (w : List Frame) : (s.setWbuf w).params = s.params := rfl
@[simp] theorem State.setWbuf_life (s : State) (w : List Frame) : (s.setWbuf w).life = s.life := rfl
@[simp] theorem State.setWbuf_ss (s : State) (w : List Frame) : (s.setWbuf w).ss = s.ss := rfl
@[simp] theorem State.setWbuf_fanActive (s : State) (w : List Frame) : (s.setWbuf w).fanActive = s.fanActive := rfl
@[simp] theorem State.setWbuf_valid (s : State) (w : List Frame) : (s.setWbuf w).valid = s.valid := rfl
@[simp] theorem State.setWbuf_errCum (s : State) (w : List Frame) : (s.setWbuf w).errCum = s.errCum := rfl
@[simp] theorem State.setWbuf_errLast (s : State) (w : List Frame) : (s.setWbuf w).errLast = s.errLast := rfl
@[simp] theorem State.setWbuf_winN (s : State) (w : List Frame) : (s.setWbuf w).winN = s.winN := rfl
@[simp] theorem State.setWbuf_wbuf (s : State) (w : List Frame) : (s.setWbuf w).wbuf = w := rfl
@[simp] theorem State.setWbuf_env (s : State) (w : List Frame) : (s.setWbuf w).env = s.env := rfl
@[simp] theorem State.setWbuf_moves (s : State) (w : List Frame) : (s.setWbuf w).moves = s.moves := rfl
@[simp] theorem State.setWbuf_results (s : State) (w : List Frame) : (s.setWbuf w).results = s.results := rfl

/-! ### setEnv -/

@[simp] theorem State.setEnv_params (s : State) (e : Env) : (s.setEnv e).params = s.params := rfl
@[simp] theorem State.setEnv_life (s : State) (e : Env) : (s.setEnv e).life = s.life := rfl
@[simp] theorem State.setEnv_ss (s : State) (e : Env) : (s.setEnv e).ss = s.ss := rfl
@[simp] theorem State.setEnv_fanActive (s : State) (e : Env) : (s.setEnv e).fanActive = s.fanActive := rfl
@[simp] theorem State.setEnv_valid (s : State) (e : Env) : (s.setEnv e).valid = s.valid := rfl
@[simp] theorem State.setEnv_errCum (s : State) (e : Env) : (s.setEnv e).errCum = s.errCum := rfl
@[simp] theorem State.setEnv_errLast (s : State) (e : Env) : (s.setEnv e).errLast = s.errLast := rfl
@[simp] theorem State.setEnv_winN (s : State) (e : Env) : (s.setEnv e).winN = s.winN := rfl
@[simp] theorem State.setEnv_wbuf (s : State) (e : Env) : (s.setEnv e).wbuf = s.wbuf := rfl
@[simp] theorem State.setEnv_env (s : State) (e : Env) : (s.setEnv e).env = e := rfl
@[simp] theorem State.setEnv_moves (s : State) (e : Env) : (s.setEnv e).moves = s.moves := rfl
@[simp] theorem State.setEnv_results (s : State) (e : Env) : (s.setEnv e).results = s.results := rfl

/-! ### setMoves -/

@[simp] theorem State.setMoves_params (s : State) (ms : List HostMove) : (s.setMoves ms).params = s.params := rfl
@[simp] theorem State.setMoves_life (s : State) (ms : List HostMove) : (s.setMoves ms).life = s.life := rfl
@[simp] theorem State.setMoves_ss (s : State) (ms : List HostMove) : (s.setMoves ms).ss = s.ss := rfl
@[simp] theorem State.setMoves_fanActive (s : State) (ms : List HostMove) : (s.setMoves ms).fanActive = s.fanActive := rfl
@[simp] theorem State.setMoves_valid (s : State) (ms : List HostMove) : (s.setMoves ms).valid = s.valid := rfl
@[simp] theorem State.setMoves_errCum (s : State) (ms : List HostMove) : (s.setMoves ms).errCum = s.errCum := rfl
@[simp] theorem State.setMoves_errLast (s : State) (ms : List HostMove) : (s.setMoves ms).errLast = s.errLast := rfl
@[simp] theorem State.setMoves_winN (s : State) (ms : List HostMove) : (s.setMoves ms).winN = s.winN := rfl
@[simp] theorem State.setMoves_wbuf (s : State) (ms : List HostMove) : (s.setMoves ms).wbuf = s.wbuf := rfl
@[simp] theorem State.setMoves_env (s : State) (ms : List HostMove) : (s.setMoves ms).env = s.env := rfl
@[simp] theorem State.setMoves_moves (s : State) (ms : List HostMove) : (s.setMoves ms).moves = ms := rfl
@[simp] theorem State.setMoves_results (s : State) (ms : List HostMove) : (s.setMoves ms).results = s.results := rfl

/-! ### deliver -/

@[simp] theorem State.deliver_params (s : State) (r : Result) : (s.deliver r).params = s.params := rfl
@[simp] theorem State.deliver_life (s : State) (r : Result) : (s.deliver r).life = s.life := rfl
@[simp] theorem State.deliver_ss (s : State) (r : Result) : (s.deliver r).ss = s.ss := rfl
@[simp] theorem State.deliver_fanActive (s : State) (r : Result) : (s.deliver r).fanActive = s.fanActive := rfl
@[simp] theorem State.deliver_valid (s : State) (r : Result) : (s.deliver r).valid = s.valid := rfl
@[simp] theorem State.deliver_errCum (s : State) (r : Result) : (s.deliver r).errCum = s.errCum := rfl
@[simp] theorem State.deliver_errLast (s : State) (r : Result) : (s.deliver r).errLast = s.errLast := rfl
@[simp] theorem State.deliver_winN (s : State) (r : Result) : (s.deliver r).winN = s.winN := rfl
@[simp] theorem State.deliver_wbuf (s : State) (r : Result) : (s.deliver r).wbuf = s.wbuf := rfl
@[simp] theorem State.deliver_env (s : State) (r : Result) : (s.deliver r).env = s.env := rfl
@[simp] theorem State.deliver_moves (s : State) (r : Result) : (s.deliver r).moves = s.moves := rfl
@[simp] theorem State.deliver_results (s : State) (r : Result) : (s.deliver r).results = s.results ++ [r] := rfl

/-! ### call -/

@[simp] theorem State.call_params (s : State) (c : Call) : (s.call c).params = s.params := rfl
@[simp] theorem State.call_life (s : State) (c : Call) : (s.call c).life = s.life := rfl
@[simp] theorem State.call_ss (s : State) (c : Call) : (s.call c).ss = s.ss := rfl
@[simp] theorem State.call_fanActive (s : State) (c : Call) : (s.call c).fanActive = s.fanActive := rfl
@[simp] theorem State.call_valid (s : State) (c : Call) : (s.call c).valid = s.valid := rfl
@[simp] theorem State.call_errCum (s : State) (c : Call) : (s.call c).errCum = s.errCum := rfl
@[simp] theorem State.call_errLast (s : State) (c : Call) : (s.call c).errLast = s.errLast := rfl
@[simp] theorem State.call_winN (s : State) (c : Call) : (s.call c).winN = s.winN := rfl
@[simp] theorem State.call_wbuf (s : State) (c : Call) : (s.call c).wbuf = s.wbuf := rfl
@[simp] theorem State.call_env (s : State) (c : Call) : (s.call c).env = s.env.after c := rfl
@[simp] theorem State.call_moves (s : State) (c : Call) : (s.call c).moves = s.moves := rfl
@[simp] theorem State.call_results (s : State) (c : Call) : (s.call c).results = s.results := rfl

/-! ### countError -/

@[simp] theorem State.countError_params (s : State) : (s.countError).params = s.params := rfl
@[simp] theorem State.countError_life (s : State) : (s.countError).life = s.life := rfl
@[simp] theorem State.countError_ss (s : State) : (s.countError).ss = s.ss := rfl
@[simp] theorem State.countError_fanActive (s : State) : (s.countError).fanActive = s.fanActive := rfl
@[simp] theorem State.countError_valid (s : State) : (s.countError).valid = s.valid := rfl
@[simp] theorem State.countError_errCum (s : State) : (s.countError).errCum = saturatingSucc s.errCum := rfl
@[simp] theorem State.countError_errLast (s : State) : (s.countError).errLast = saturatingSucc s.errLast := rfl
@[simp] theorem State.countError_winN (s : State) : (s.countError).winN = s.winN := rfl
@[simp] theorem State.countError_wbuf (s : State) : (s.countError).wbuf = s.wbuf := rfl
@[simp] theorem State.countError_env (s : State) : (s.countError).env = s.env := rfl
@[simp] theorem State.countError_moves (s : State) : (s.countError).moves = s.moves := rfl
@[simp] theorem State.countError_results (s : State) : (s.countError).results = s.results := rfl

/-! ### hardwareReset -/

@[simp] theorem State.hardwareReset_params (s : State) : (s.hardwareReset).params = s.params := rfl
@[simp] theorem State.hardwareReset_life (s : State) : (s.hardwareReset).life = .uninit := rfl
@[simp] theorem State.hardwareReset_ss (s : State) : (s.hardwareReset).ss = .idle := rfl
@[simp] theorem State.hardwareReset_fanActive (s : State) : (s.hardwareReset).fanActive = false := rfl
@[simp] theorem State.hardwareReset_valid (s : State) : (s.hardwareReset).valid = noSections := rfl
@[simp] theorem State.hardwareReset_errCum (s : State) : (s.hardwareReset).errCum = 0 := rfl
@[simp] theorem State.hardwareReset_errLast (s : State) : (s.hardwareReset).errLast = 0 := rfl
@[simp] theorem State.hardwareReset_winN (s : State) : (s.hardwareReset).winN = 1 := rfl
@[simp] theorem State.hardwareReset_wbuf (s : State) : (s.hardwareReset).wbuf = [] := rfl
@[simp] theorem State.hardwareReset_env (s : State) : (s.hardwareReset).env = s.env := rfl
@[simp] theorem State.hardwareReset_moves (s : State) : (s.hardwareReset).moves = s.moves := rfl
@[simp] theorem State.hardwareReset_results (s : State) : (s.hardwareReset).results = s.results := rfl

end Sys2Proof.Machine
end

