-- ==== Sys2Proof/Laws/Aggregator.lean ====
section
/-! SUPPORT. What a push can do to the window (spec/45_rolling_aggregator.md R191 to R198). -/

namespace Sys2Proof.Machine

/-- A push while the window has room appends (R192). -/
theorem pushWindow_room {n : Nat} {w : List Frame} (h : w.length < n) (f : Frame) : pushWindow n f w = w ++ [f] := by
  simp [pushWindow, Nat.not_lt.mpr (Nat.succ_le_of_lt h)]

/-- A push into a full window evicts the oldest frame (R193). -/
theorem pushWindow_full {n : Nat} {w : List Frame} (h : w.length = n) (hn : n ≠ 0) (f : Frame) :
    pushWindow n f w = w.drop 1 ++ [f] := by
  match w, h with
  | [], h => exact absurd h.symm hn
  | x :: w, h =>
    have h' : w.length + 1 = n := h
    simp only [pushWindow, List.cons_append, List.drop_succ_cons, List.drop_zero, List.length_cons, List.length_append,
      List.length_nil]
    rw [if_pos (by omega), List.take_of_length_le (by simp; omega)]

/-- A window never holds more than `N` frames (R193). -/
theorem pushWindow_length_le {n : Nat} {w : List Frame} (f : Frame) (h : w.length ≤ n) (hn : n ≠ 0) :
    (pushWindow n f w).length ≤ n := by
  rcases Nat.lt_or_eq_of_le h with h | h
  · rw [pushWindow_room h]
    simp
    omega
  · rw [pushWindow_full h hn]
    simp
    omega

/-- A push adds no frame but the one pushed. -/
theorem mem_pushWindow {n : Nat} {w : List Frame} {f g : Frame} (h : g ∈ pushWindow n f w) : g ∈ w ∨ g = f := by
  unfold pushWindow at h
  have hs : g ∈ w ++ [f] := by
    split at h
    · exact List.mem_of_mem_drop (List.mem_of_mem_take h)
    · exact h
  simpa using hs

/-- Everything a push can do: pass-through (R191), or the window written and, if it is full, the mean returned (R194). -/
theorem aggPush_cases (f : Frame) (s : State) :
    (s.winN = 1 ∧ aggPush f s = (some f, s)) ∨
    (s.winN ≠ 1 ∧ (pushWindow s.winN f s.wbuf).length = s.winN ∧
      aggPush f s = (some (meanFrame s.params.meanArith (pushWindow s.winN f s.wbuf)),
        s.setWbuf (pushWindow s.winN f s.wbuf))) ∨
    (s.winN ≠ 1 ∧ (pushWindow s.winN f s.wbuf).length ≠ s.winN ∧
      aggPush f s = (none, s.setWbuf (pushWindow s.winN f s.wbuf))) := by
  unfold aggPush
  by_cases h1 : s.winN = 1
  · exact .inl ⟨h1, by rw [if_pos h1]⟩
  · by_cases h2 : (pushWindow s.winN f s.wbuf).length = s.winN
    · exact .inr (.inl ⟨h1, h2, by simp [h1, h2]⟩)
    · exact .inr (.inr ⟨h1, h2, by simp [h1, h2]⟩)

/-- Everything `MeanFrame` says of its frame, lane by lane (R195). -/
theorem isMeanFrame_meanFrame (arith : MeanArith) (frames : List Frame) :
    IsMeanFrame arith frames (meanFrame arith frames) := by
  refine ⟨rfl, fun i => ⟨?_, ?_⟩⟩
  · rintro rfl
    rw [meanFrame, Vector.get_eq_getElem, Vector.getElem_ofFn]
  · rintro id rfl
    rw [meanFrame, Vector.get_eq_getElem, Vector.getElem_ofFn]
    rfl

/-- A mean frame is whole (R195, R202). -/
@[simp] theorem meanFrame_v (arith : MeanArith) (frames : List Frame) : (meanFrame arith frames).v = allSections := rfl

end Sys2Proof.Machine
end

