-- ==== Sys2Proof/Laws/Operands.lean ====
section
/-! SUPPORT. The operand forms as numbers: what byte and half order mean, and that taking a word apart and putting it
together again are inverse (spec/30_encoding.md R87). -/

namespace Sys2Proof.Machine

/-- `W16(b0, b1) = 256*b0 + b1` (R60). -/
theorem w16_toNat (b0 b1 : Byte) : (w16 b0 b1).toNat = 256 * b0.toNat + b1.toNat := by
  have h : (w16 b0 b1).toNat = b0.toNat <<< 8 ||| b1.toNat := BitVec.toNat_append b0 b1
  rw [h, Nat.shiftLeft_eq, Nat.mul_comm]
  exact (Nat.two_pow_add_eq_or_of_lt b1.isLt b0.toNat).symm

/-- `W32BE(h0, h1) = 65536*h0 + h1` (R61). -/
theorem w32be_toNat (h0 h1 : Half) : (w32be h0 h1).toNat = 65536 * h0.toNat + h1.toNat := by
  have h : (w32be h0 h1).toNat = h0.toNat <<< 16 ||| h1.toNat := BitVec.toNat_append h0 h1
  rw [h, Nat.shiftLeft_eq, Nat.mul_comm]
  exact (Nat.two_pow_add_eq_or_of_lt h1.isLt h0.toNat).symm

/-- `W32LEH(h0, h1) = 65536*h1 + h0` (R61). -/
theorem w32leh_toNat (h0 h1 : Half) : (w32leh h0 h1).toNat = 65536 * h1.toNat + h0.toNat := w32be_toNat h1 h0

theorem highByte_toNat (a : Half) : (highByte a).toNat = a.toNat / 256 := by
  have := a.isLt
  simp [highByte, Nat.shiftRight_eq_div_pow]
  omega

theorem lowByte_toNat (a : Half) : (lowByte a).toNat = a.toNat % 256 := by simp [lowByte]

theorem highHalf_toNat (v : Word) : (highHalf v).toNat = v.toNat / 65536 := by
  have := v.isLt
  simp [highHalf, Nat.shiftRight_eq_div_pow]
  omega

theorem lowHalf_toNat (v : Word) : (lowHalf v).toNat = v.toNat % 65536 := by simp [lowHalf]

@[simp] theorem highByte_w16 (b0 b1 : Byte) : highByte (w16 b0 b1) = b0 := by
  apply BitVec.eq_of_toNat_eq
  have := b0.isLt
  have := b1.isLt
  rw [highByte_toNat, w16_toNat]
  omega

@[simp] theorem lowByte_w16 (b0 b1 : Byte) : lowByte (w16 b0 b1) = b1 := by
  apply BitVec.eq_of_toNat_eq
  have := b1.isLt
  rw [lowByte_toNat, w16_toNat]
  omega

@[simp] theorem w16_bytes (a : Half) : w16 (highByte a) (lowByte a) = a := by
  apply BitVec.eq_of_toNat_eq
  rw [w16_toNat, highByte_toNat, lowByte_toNat]
  omega

/-- The two halves sent for the auto-clean interval, low half first, read back in that order (R87 (b), (e)). -/
@[simp] theorem w32leh_halves (v : Word) : w32leh (lowHalf v) (highHalf v) = v := by
  apply BitVec.eq_of_toNat_eq
  rw [w32leh_toNat, highHalf_toNat, lowHalf_toNat]
  omega

/-- `nmax` lies between 1 and `2^24` (R6). -/
theorem nmax_pos (p : Params) : 1 ≤ nmax p := by simp [nmax]

theorem nmax_le (p : Params) : nmax p ≤ 2 ^ 24 := by
  have := p.nmaxMinusOne.isLt
  unfold nmax
  omega

/-- A size is legal exactly between 1 and `NMAX` (R200). -/
theorem not_windowIllegal_iff (p : Params) (n : Nat) : ¬ WindowIllegal p n ↔ 1 ≤ n ∧ n ≤ nmax p := by
  unfold WindowIllegal
  omega

end Sys2Proof.Machine
end

