-- ==== Sys2Proof/Laws/Env.lean ====
section
/-! SUPPORT. What one Transport call leaves in the environment, field by field: an answer of its own kind is used up, the
answers of the other kinds are not touched, and the call is on record. -/

namespace Sys2Proof.Machine

@[simp] theorem Env.after_calls (e : Env) (c : Call) : (e.after c).calls = e.calls ++ [c] := by cases c <;> rfl

@[simp] theorem Env.after_memWrite_writes (e : Env) (a : Byte) (v : List Byte) (o : WriteOutcome) :
    (e.after (.memWrite a v o)).writes = e.writes.rest := rfl
@[simp] theorem Env.after_memWrite_reads (e : Env) (a : Byte) (v : List Byte) (o : WriteOutcome) :
    (e.after (.memWrite a v o)).reads = e.reads := rfl
@[simp] theorem Env.after_memWrite_resets (e : Env) (a : Byte) (v : List Byte) (o : WriteOutcome) :
    (e.after (.memWrite a v o)).resets = e.resets := rfl
@[simp] theorem Env.after_memWrite_probes (e : Env) (a : Byte) (v : List Byte) (o : WriteOutcome) :
    (e.after (.memWrite a v o)).probes = e.probes := rfl

@[simp] theorem Env.after_memRead_writes (e : Env) (a : Byte) (n : Nat) (o : ReadOutcome) :
    (e.after (.memRead a n o)).writes = e.writes := rfl
@[simp] theorem Env.after_memRead_reads (e : Env) (a : Byte) (n : Nat) (o : ReadOutcome) :
    (e.after (.memRead a n o)).reads = e.reads.rest := rfl
@[simp] theorem Env.after_memRead_resets (e : Env) (a : Byte) (n : Nat) (o : ReadOutcome) :
    (e.after (.memRead a n o)).resets = e.resets := rfl
@[simp] theorem Env.after_memRead_probes (e : Env) (a : Byte) (n : Nat) (o : ReadOutcome) :
    (e.after (.memRead a n o)).probes = e.probes := rfl

@[simp] theorem Env.after_settle_writes (e : Env) (d : Nat) : (e.after (.settle d)).writes = e.writes := rfl
@[simp] theorem Env.after_settle_reads (e : Env) (d : Nat) : (e.after (.settle d)).reads = e.reads := rfl
@[simp] theorem Env.after_settle_resets (e : Env) (d : Nat) : (e.after (.settle d)).resets = e.resets := rfl
@[simp] theorem Env.after_settle_probes (e : Env) (d : Nat) : (e.after (.settle d)).probes = e.probes := rfl

@[simp] theorem Env.after_busReset_writes (e : Env) (o : ResetOutcome) : (e.after (.busReset o)).writes = e.writes := rfl
@[simp] theorem Env.after_busReset_reads (e : Env) (o : ResetOutcome) : (e.after (.busReset o)).reads = e.reads := rfl
@[simp] theorem Env.after_busReset_resets (e : Env) (o : ResetOutcome) :
    (e.after (.busReset o)).resets = e.resets.rest := rfl
@[simp] theorem Env.after_busReset_probes (e : Env) (o : ResetOutcome) : (e.after (.busReset o)).probes = e.probes := rfl

@[simp] theorem Env.after_probe_writes (e : Env) (a : Byte) (o : ProbeOutcome) :
    (e.after (.probe a o)).writes = e.writes := rfl
@[simp] theorem Env.after_probe_reads (e : Env) (a : Byte) (o : ProbeOutcome) : (e.after (.probe a o)).reads = e.reads := rfl
@[simp] theorem Env.after_probe_resets (e : Env) (a : Byte) (o : ProbeOutcome) :
    (e.after (.probe a o)).resets = e.resets := rfl
@[simp] theorem Env.after_probe_probes (e : Env) (a : Byte) (o : ProbeOutcome) :
    (e.after (.probe a o)).probes = e.probes.rest := rfl

/-- The next answer to a read is not changed by a write. -/
@[simp] theorem Env.nextRead_after_memWrite (e : Env) (a : Byte) (v : List Byte) (o : WriteOutcome) :
    (e.after (.memWrite a v o)).nextRead = e.nextRead := rfl
/-- The next answer to a read is not changed by a settle delay. -/
@[simp] theorem Env.nextRead_after_settle (e : Env) (d : Nat) : (e.after (.settle d)).nextRead = e.nextRead := rfl
/-- The next answer to a bus reset is not changed by a write. -/
@[simp] theorem Env.nextReset_after_memWrite (e : Env) (a : Byte) (v : List Byte) (o : WriteOutcome) :
    (e.after (.memWrite a v o)).nextReset = e.nextReset := rfl
/-- The next answer to a bus reset is not changed by a settle delay. -/
@[simp] theorem Env.nextReset_after_settle (e : Env) (d : Nat) : (e.after (.settle d)).nextReset = e.nextReset := rfl
/-- The next answer to a bus reset is not changed by a read. -/
@[simp] theorem Env.nextReset_after_memRead (e : Env) (a : Byte) (n : Nat) (o : ReadOutcome) :
    (e.after (.memRead a n o)).nextReset = e.nextReset := rfl

/-- A fixed answer is the next one. -/
@[simp] theorem Answers.next_cons {α : Type} (free : Nat → α) (x : α) (xs : List α) (k : Nat) :
    Answers.next free ⟨x :: xs, k⟩ = x := rfl
/-- A fixed answer is used up first. -/
@[simp] theorem Answers.rest_cons {α : Type} (x : α) (xs : List α) (k : Nat) :
    Answers.rest ⟨x :: xs, k⟩ = ⟨xs, k⟩ := rfl

end Sys2Proof.Machine
end

