-- ==== Sys2Proof/Laws/Ops.lean ====
section
/-! SUPPORT. What the shared operations can do, once: sequencing and returning, the prologue, the Transport wrappers and the
bodies of bus commands. Later proofs cite these instead of unfolding the operations. -/

namespace Sys2Proof.Machine

/-! ### Sequencing and returning -/

@[simp] theorem Ran.andThen_done {α β : Type} (a : α) (s : State) (k : α → State → Ran β) :
    (Ran.done a s).andThen k = k a s := rfl
@[simp] theorem Ran.andThen_raised {α β : Type} (e : Error) (s : State) (k : α → State → Ran β) :
    (Ran.raised e s).andThen k = .raised e s := rfl
@[simp] theorem raise_eq {α : Type} (e : Error) (s : State) : (raise e s : Ran α) = .raised e s := rfl
@[simp] theorem finish_done (r : Result) (s : State) : finish (.done r s) = .next (s.deliver r) := rfl
@[simp] theorem finish_raised (e : Error) (s : State) : finish (.raised e s) = .next (s.deliver (.err e)) := rfl

/-- Sequencing is associative. -/
theorem Ran.andThen_assoc {α β γ : Type} (r : Ran α) (f : α → State → Ran β) (g : β → State → Ran γ) :
    (r.andThen f).andThen g = r.andThen fun a s => (f a s).andThen g := by
  cases r <;> rfl

/-- Every operation ends in a next state with one result more. -/
theorem finish_next (r : Ran Result) : ∃ v u, finish r = .next (u.deliver v) ∧
    (r = .done v u ∨ ∃ e, v = .err e ∧ r = .raised e u) := by
  cases r with
  | done v s => exact ⟨v, s, rfl, .inl rfl⟩
  | raised e s => exact ⟨.err e, s, rfl, .inr ⟨e, rfl, rfl⟩⟩

/-! ### The prologue -/

/-- What an operation with a prologue can be: refused with nothing written, or its body. -/
theorem guarded_cases {α : Type} (op : Operation) (s : State) (body : State → Ran α) :
    (∃ e, prologue op s = some e ∧ guarded op s body = .raised e s) ∨
    (prologue op s = none ∧ guarded op s body = body s) := by
  unfold guarded
  cases prologue op s with
  | none => exact .inr ⟨rfl, rfl⟩
  | some e => exact .inl ⟨e, rfl, rfl⟩

/-- An operation other than `INIT` passes the prologue exactly when the session is up. -/
theorem prologue_eq_none_iff {op : Operation} (h : op ≠ .init) (s : State) : prologue op s = none ↔ s.life = .ready := by
  unfold prologue
  cases s.life <;> simp [h]

/-- `INIT` passes the prologue exactly when there is no session yet. -/
theorem prologue_init_eq_none_iff (s : State) : prologue .init s = none ↔ s.life = .uninit := by
  unfold prologue
  cases s.life <;> simp

/-- An operation other than `INIT` runs its body when the session is up. -/
theorem guarded_ready {α : Type} {op : Operation} (h : op ≠ .init) {s : State} (hs : s.life = .ready)
    (body : State → Ran α) : guarded op s body = body s := by
  unfold guarded
  rw [(prologue_eq_none_iff h s).mpr hs]

/-! ### The Transport wrappers -/

/-- A failed call and its bus reset. -/
theorem recover_eq {α : Type} (during : BusPhase) (s : State) :
    (recover during s : Ran α) = .raised (ioError s.env.nextReset during)
      ((s.call (.busReset s.env.nextReset)).setLife (lifeAfterIoFail s.env.nextReset s.life)) := by
  unfold recover
  cases s.env.nextReset <;> rfl

/-- A write that succeeds: the frame, then the settle delay. -/
theorem busWrite_ok {s : State} (h : s.env.nextWrite = .ok) (v : List Byte) (d : Nat) :
    busWrite v d s = .done () (s.setEnv (s.env.sent s.params v d)) := by
  simp [busWrite, h, State.call, State.setEnv, Env.after, Env.sent]

/-- A write that fails: one bus reset, and the error. -/
theorem busWrite_ioFail {s : State} (h : s.env.nextWrite = .ioFail) (v : List Byte) (d : Nat) :
    busWrite v d s = .raised (ioError s.env.nextReset .write)
      ((s.setEnv (s.env.writeFailed s.params v)).setLife (lifeAfterIoFail s.env.nextReset s.life)) := by
  simp [busWrite, h, recover_eq, State.call, State.setEnv, Env.after, Env.writeFailed, Env.nextReset]

/-- A read that returns a list: it is handed on whatever its length. -/
theorem busReadN_ok {s : State} {r : List Byte} (h : s.env.nextRead = .bytes r) (n : Nat) :
    busReadN n s = .done r (s.setEnv (s.env.after (.memRead s.params.devAddr n (.bytes r)))) := by
  simp [busReadN, h, State.call]

/-- A read that fails: one bus reset, and the error. -/
theorem busReadN_ioFail {s : State} (h : s.env.nextRead = .ioFail) (n : Nat) :
    busReadN n s = .raised (ioError s.env.nextReset .read)
      ((s.setEnv ((s.env.after (.memRead s.params.devAddr n .ioFail)).after (.busReset s.env.nextReset))).setLife
        (lifeAfterIoFail s.env.nextReset s.life)) := by
  simp [busReadN, h, recover_eq, State.call, State.setEnv]

/-- A write-only command whose write succeeds. -/
theorem doWriteCmd_ok {s : State} (h : s.env.nextWrite = .ok) (cmd : BusCommand) (arg : Word) :
    doWriteCmd cmd arg s =
      .done () (s.setEnv (s.env.sent s.params (encodeFrame s.params cmd arg) (perCommand s.params.settle cmd))) :=
  busWrite_ok h _ _

/-- A write-only command whose write fails. -/
theorem doWriteCmd_ioFail {s : State} (h : s.env.nextWrite = .ioFail) (cmd : BusCommand) (arg : Word) :
    doWriteCmd cmd arg s = .raised (ioError s.env.nextReset .write)
      ((s.setEnv (s.env.writeFailed s.params (encodeFrame s.params cmd arg))).setLife
        (lifeAfterIoFail s.env.nextReset s.life)) :=
  busWrite_ioFail h _ _

/-- Everything a write-only command can do. -/
theorem doWriteCmd_cases (cmd : BusCommand) (arg : Word) (s : State) :
    (s.env.nextWrite = .ok ∧ doWriteCmd cmd arg s =
      .done () (s.setEnv (s.env.sent s.params (encodeFrame s.params cmd arg) (perCommand s.params.settle cmd)))) ∨
    (s.env.nextWrite = .ioFail ∧ doWriteCmd cmd arg s = .raised (ioError s.env.nextReset .write)
      ((s.setEnv (s.env.writeFailed s.params (encodeFrame s.params cmd arg))).setLife
        (lifeAfterIoFail s.env.nextReset s.life))) := by
  cases h : s.env.nextWrite with
  | ok => exact .inl ⟨rfl, doWriteCmd_ok h cmd arg⟩
  | ioFail => exact .inr ⟨rfl, doWriteCmd_ioFail h cmd arg⟩

/-- A reading command whose write and read succeed: the list is handed on, `ERR_LAST` is 0. -/
theorem doReadCmd_ok {s : State} (hw : s.env.nextWrite = .ok) {r : List Byte} (hr : s.env.nextRead = .bytes r)
    (cmd : BusCommand) : doReadCmd cmd s = .done r (s.startAttempt.setEnv
      (s.env.exchanged s.params (encodeFrame s.params cmd 0) (perCommand s.params.settle cmd) (rlen cmd) r)) := by
  have h1 : s.startAttempt.env.nextWrite = .ok := hw
  rw [doReadCmd, doWriteCmd_ok h1, Ran.andThen_done, busReadN_ok (r := r) (by exact hr)]
  simp [Env.sent, Env.exchanged, Env.after, State.setEnv, State.startAttempt]

/-- A reading command whose write fails: no read is made. -/
theorem doReadCmd_writeFail {s : State} (hw : s.env.nextWrite = .ioFail) (cmd : BusCommand) :
    doReadCmd cmd s = .raised (ioError s.env.nextReset .write)
      ((s.startAttempt.setEnv (s.env.writeFailed s.params (encodeFrame s.params cmd 0))).setLife
        (lifeAfterIoFail s.env.nextReset s.life)) := by
  have h1 : s.startAttempt.env.nextWrite = .ioFail := hw
  simp [doReadCmd, doWriteCmd_ioFail h1]

/-- A reading command whose read fails. -/
theorem doReadCmd_readFail {s : State} (hw : s.env.nextWrite = .ok) (hr : s.env.nextRead = .ioFail) (cmd : BusCommand) :
    doReadCmd cmd s = .raised (ioError s.env.nextReset .read)
      ((s.startAttempt.setEnv (s.env.readFailed s.params (encodeFrame s.params cmd 0) (perCommand s.params.settle cmd)
        (rlen cmd))).setLife (lifeAfterIoFail s.env.nextReset s.life)) := by
  have h1 : s.startAttempt.env.nextWrite = .ok := hw
  rw [doReadCmd, doWriteCmd_ok h1, Ran.andThen_done, busReadN_ioFail (by exact hr)]
  simp [Env.sent, Env.readFailed, Env.after, State.setEnv, State.startAttempt, Env.nextReset]

/-- Everything a reading command can do before its response is decoded. -/
theorem doReadCmd_cases (cmd : BusCommand) (s : State) :
    (∃ r, s.env.nextWrite = .ok ∧ s.env.nextRead = .bytes r ∧ doReadCmd cmd s = .done r (s.startAttempt.setEnv
      (s.env.exchanged s.params (encodeFrame s.params cmd 0) (perCommand s.params.settle cmd) (rlen cmd) r))) ∨
    (s.env.nextWrite = .ioFail ∧ doReadCmd cmd s = .raised (ioError s.env.nextReset .write)
      ((s.startAttempt.setEnv (s.env.writeFailed s.params (encodeFrame s.params cmd 0))).setLife
        (lifeAfterIoFail s.env.nextReset s.life))) ∨
    (s.env.nextWrite = .ok ∧ s.env.nextRead = .ioFail ∧ doReadCmd cmd s = .raised (ioError s.env.nextReset .read)
      ((s.startAttempt.setEnv (s.env.readFailed s.params (encodeFrame s.params cmd 0) (perCommand s.params.settle cmd)
        (rlen cmd))).setLife (lifeAfterIoFail s.env.nextReset s.life))) := by
  cases hw : s.env.nextWrite with
  | ioFail => exact .inr (.inl ⟨rfl, doReadCmd_writeFail hw cmd⟩)
  | ok =>
    cases hr : s.env.nextRead with
    | ioFail => exact .inr (.inr ⟨rfl, rfl, doReadCmd_readFail hw hr cmd⟩)
    | bytes r => exact .inl ⟨r, rfl, rfl, doReadCmd_ok hw hr cmd⟩

end Sys2Proof.Machine
end

