-- ==== Sys2Proof/Laws/Decoder.lean ====
section
/-! SUPPORT. Counting errors and decoding fields: what `CountError`, `DecodeField`, `CheckLength`, the single-field body and
the measurement assembler do to the state, once. -/

namespace Sys2Proof.Machine

/-! ### Counters -/

/-- One count, saturated (R27). -/
theorem saturatingSucc_eq (c : BitVec 32) : saturatingSucc c = counted c 1 := by
  apply BitVec.eq_of_toNat_eq
  have := c.isLt
  unfold saturatingSucc counted
  split
  · rw [BitVec.toNat_add, BitVec.toNat_ofNat]
    simp only [BitVec.ofNat_eq_ofNat, BitVec.toNat_ofNat]
    omega
  · rw [BitVec.toNat_ofNat]
    omega

theorem counted_toNat (c : BitVec 32) (n : Nat) : (counted c n).toNat = min (c.toNat + n) (2 ^ 32 - 1) := by
  unfold counted
  rw [BitVec.toNat_ofNat]
  omega

@[simp] theorem counted_zero (c : BitVec 32) : counted c 0 = c := by
  apply BitVec.eq_of_toNat_eq
  have := c.isLt
  rw [counted_toNat]
  omega

/-- Counts add up, saturation included. -/
@[simp] theorem counted_counted (c : BitVec 32) (m n : Nat) : counted (counted c m) n = counted c (m + n) := by
  apply BitVec.eq_of_toNat_eq
  simp only [counted_toNat]
  omega

/-- `CountError` once (R27). -/
theorem State.countError_eq (s : State) :
    s.countError = { s with errLast := counted s.errLast 1, errCum := counted s.errCum 1 } := by
  simp [State.countError, saturatingSucc_eq]

/-! ### Fields -/

/-- The state after a field: as before, or one error counted (R144). -/
theorem decodeField_eq (raw : List Byte) (off k : Nat) (s : State) :
    decodeField raw off k s = (fieldData raw off k, { s with
      errLast := counted s.errLast (if (fieldData raw off k).isSome then 0 else 1)
      errCum := counted s.errCum (if (fieldData raw off k).isSome then 0 else 1) }) := by
  unfold decodeField
  cases fieldData raw off k <;> simp [State.countError_eq]

/-- A response of the right length (R141). -/
theorem checkLength_ok {raw : List Byte} {count : Nat} (h : raw.length = 3 * count) (s : State) :
    checkLength raw count s = .done () s := by simp [checkLength, h]

/-- A response of another length (R141). -/
theorem checkLength_bad {raw : List Byte} {count : Nat} (h : raw.length ≠ 3 * count) (s : State) :
    checkLength raw count s = .raised (.lengthMismatch (3 * count) raw.length) s := by simp [checkLength, h]

/-- A single-field response of the right length (R154). -/
theorem decodeSingle_ok {raw : List Byte} {cmd : BusCommand} (h : raw.length = rlen cmd) (s : State) :
    decodeSingle cmd raw s = .done (fieldData raw 0 (packetCount cmd)) { s with
      errLast := counted s.errLast (invalidCount raw (packetCount cmd))
      errCum := counted s.errCum (invalidCount raw (packetCount cmd)) } := by
  simp [decodeSingle, checkLength_ok h, decodeField_eq, invalidCount]

/-- The body of a single-field read whose exchange succeeds with a response of the right length. -/
theorem readField_ok {s : State} {raw : List Byte} {cmd : BusCommand} (hw : s.env.nextWrite = .ok)
    (hr : s.env.nextRead = .bytes raw) (h : raw.length = rlen cmd) :
    readField cmd s = .done (fieldData raw 0 (packetCount cmd)) { s with
      errLast := counted 0 (invalidCount raw (packetCount cmd))
      errCum := counted s.errCum (invalidCount raw (packetCount cmd))
      env := s.env.exchanged s.params (encodeFrame s.params cmd 0) (perCommand s.params.settle cmd) (rlen cmd) raw } := by
  rw [readField, doReadCmd_ok hw hr, Ran.andThen_done, decodeSingle_ok h]
  rfl

/-- Everything the body of a single-field read can do: a value with the errors counted, or an error with `ERR_LAST` at 0 and,
after a failed bus reset, `LIFE` at `Fatal`. -/
theorem readField_cases (cmd : BusCommand) (s : State) :
    (∃ raw, s.env.nextWrite = .ok ∧ s.env.nextRead = .bytes raw ∧ raw.length = rlen cmd ∧
      readField cmd s = .done (fieldData raw 0 (packetCount cmd)) { s with
        errLast := counted 0 (invalidCount raw (packetCount cmd))
        errCum := counted s.errCum (invalidCount raw (packetCount cmd))
        env := s.env.exchanged s.params (encodeFrame s.params cmd 0) (perCommand s.params.settle cmd) (rlen cmd) raw }) ∨
    (∃ raw, s.env.nextWrite = .ok ∧ s.env.nextRead = .bytes raw ∧ raw.length ≠ rlen cmd ∧
      readField cmd s = .raised (.lengthMismatch (rlen cmd) raw.length) { s with
        errLast := 0
        env := s.env.exchanged s.params (encodeFrame s.params cmd 0) (perCommand s.params.settle cmd) (rlen cmd) raw }) ∨
    (s.env.nextWrite = .ioFail ∧ readField cmd s = .raised (ioError s.env.nextReset .write) { s with
        life := lifeAfterIoFail s.env.nextReset s.life
        errLast := 0
        env := s.env.writeFailed s.params (encodeFrame s.params cmd 0) }) ∨
    (s.env.nextWrite = .ok ∧ s.env.nextRead = .ioFail ∧
      readField cmd s = .raised (ioError s.env.nextReset .read) { s with
        life := lifeAfterIoFail s.env.nextReset s.life
        errLast := 0
        env := s.env.readFailed s.params (encodeFrame s.params cmd 0) (perCommand s.params.settle cmd) (rlen cmd) }) := by
  rcases doReadCmd_cases cmd s with ⟨raw, hw, hr, he⟩ | ⟨hw, he⟩ | ⟨hw, hr, he⟩
  · by_cases h : raw.length = rlen cmd
    · exact .inl ⟨raw, hw, hr, h, readField_ok hw hr h⟩
    · refine .inr (.inl ⟨raw, hw, hr, h, ?_⟩)
      rw [readField, he, Ran.andThen_done, decodeSingle, checkLength_bad h]
      rfl
  · exact .inr (.inr (.inl ⟨hw, by rw [readField, he]; rfl⟩))
  · exact .inr (.inr (.inr ⟨hw, hr, by rw [readField, he]; rfl⟩))

/-! ### Measurement -/

/-- The loop over fields counts one error for each invalid one (R180). -/
theorem countLoop_eq (raw : List Byte) (l : List Nat) (s : State) :
    l.foldl (fun s i => (decodeField raw (6 * i) 2 s).2) s = { s with
      errLast := counted s.errLast (l.countP fun i => !(fieldData raw (6 * i) 2).isSome)
      errCum := counted s.errCum (l.countP fun i => !(fieldData raw (6 * i) 2).isSome) } := by
  induction l generalizing s with
  | nil => simp
  | cons i l ih =>
    rw [List.foldl_cons, ih, decodeField_eq]
    cases h : fieldData raw (6 * i) 2 <;> simp [h, Nat.add_comm]

/-- The data of a field of `k` packets are `2k` bytes (R144). -/
theorem takePackets_length (k : Nat) (l data : List Byte) (h : takePackets k l = some data) : data.length = 2 * k := by
  induction k generalizing l data with
  | zero => simp_all [takePackets]
  | succ k ih =>
    match l, h with
    | d0 :: d1 :: c :: rest, h =>
      simp only [takePackets] at h
      split at h
      · obtain ⟨d, hd, rfl⟩ := Option.map_eq_some_iff.mp h
        have := ih _ _ hd
        simp only [List.length_append, List.length_cons, List.length_nil, this]
        omega
      · simp at h

/-- The verdict on a measurement field is that of its decode (R177). -/
theorem measField_valid (raw : List Byte) (i : Nat) : (measField raw i).1 = (fieldData raw (6 * i) 2).isSome := by
  unfold measField
  cases h : fieldData raw (6 * i) 2 with
  | none => rfl
  | some data =>
    have hl := takePackets_length 2 _ _ h
    match data, hl with
    | [_, _, _, _], _ => rfl

/-- The measurement decode counts the invalid fields (R180, R184). -/
theorem countFields_eq (raw : List Byte) (s : State) :
    countFields raw s = { s with
      errLast := counted s.errLast (invalidFields raw), errCum := counted s.errCum (invalidFields raw) } := by
  rw [countFields, countLoop_eq]
  simp [invalidFields, measField_valid]

/-- The frame is accepted exactly when no field is invalid (R181). -/
theorem measFrame_accepted_iff (raw : List Byte) : (measFrame raw).v.accepted = true ↔ invalidFields raw = 0 := by
  have h : invalidFields raw = 0 ↔ ∀ i ∈ List.range 10, (measField raw i).1 = true := by
    simp [invalidFields, List.countP_eq_zero]
  rw [h]
  simp [measFrame, sectionsOf, Sections.accepted, List.range_succ, and_assoc]

/-- An accepted frame has all three flags. -/
theorem accepted_eq_all {v : Sections} (h : v.accepted = true) : v = allSections := by
  obtain ⟨a, b, c⟩ := v
  simp_all [Sections.accepted, allSections]

/-- The assembler on a response of 60 bytes (R184). -/
theorem assembleMeasurement_ok {raw : List Byte} (h : raw.length = 60) (s : State) :
    assembleMeasurement raw s =
      .done (if (measFrame raw).v.accepted then some (measFrame raw) else none) { s with
        errLast := counted s.errLast (invalidFields raw)
        errCum := counted s.errCum (invalidFields raw)
        valid := (measFrame raw).v } := by
  rw [assembleMeasurement, checkLength_ok h, Ran.andThen_done, countFields_eq]
  rfl

/-- The assembler on a response of another length (R184). -/
theorem assembleMeasurement_bad {raw : List Byte} (h : raw.length ≠ 60) (s : State) :
    assembleMeasurement raw s = .raised (.lengthMismatch 60 raw.length) s := by
  rw [assembleMeasurement, checkLength_bad h]
  rfl

end Sys2Proof.Machine
end

