-- ==== Sys2Proof/Laws/Exec.lean ====
section
/-! SUPPORT. The eighteen meanings by shape: refused by the prologue, refused in this session state, a write-only command, a
single-field read, a measurement, a local operation. Later proofs rewrite with these instead of unfolding the meanings. -/

namespace Sys2Proof.Machine

/-- What a write-only command does to the state once its write has succeeded (R212, R213, R216 to R218, R220, R225, R226). -/
def writtenState : BusCommand → State → State
  | .startMeas, s => (s.setMode .measuring true).setValid noSections
  | .stopMeas, s => s.setMode .idle false
  | .sleep, s => s.setMode .sleeping false
  | .wakeup, s => s.setSession .idle
  | .reset, s => (s.setMode .idle false).clearCounters
  | .startFanClean, s => s
  | .writeAutoclean, s => s
  | .clearStatus, s => s
  | .readDataReady, s => s
  | .readMeas, s => s
  | .readAutoclean, s => s
  | .readProductType, s => s
  | .readSerial, s => s
  | .readFwVersion, s => s
  | .readStatus, s => s

/-- The result of a single-field read (R214, R219, R221 to R224). -/
def fieldResult : BusCommand → Option (List Byte) → Result
  | .readDataReady, r => .word16Out (asWord16 r).1 (asWord16 r).2
  | .readFwVersion, r => .word16Out (asWord16 r).1 (asWord16 r).2
  | .readAutoclean, r => .word32Out (asWord32LEH r).1 (asWord32LEH r).2
  | .readStatus, r => .word32Out (asWord32BE r).1 (asWord32BE r).2
  | .readProductType, r => .bytesOut (asBytes r).1 (asBytes r).2
  | .readSerial, r => .bytesOut (asBytes r).1 (asBytes r).2
  | .startMeas, _ => .done
  | .stopMeas, _ => .done
  | .readMeas, _ => .done
  | .sleep, _ => .done
  | .wakeup, _ => .done
  | .startFanClean, _ => .done
  | .writeAutoclean, _ => .done
  | .clearStatus, _ => .done
  | .reset, _ => .done

/-- The result of a bus command in a session state with no arrow for it (R229, R255). -/
def refusalHere (i : Instr) (ss : Session) : Result :=
  if i = .readMeas then .noFrame .notMeasuring else .err (.illegalState i.operation (.session ss))

@[simp] theorem finish_guarded_some {op : Operation} {s : State} {e : Error} (h : prologue op s = some e)
    (body : State → Ran Result) : finish (guarded op s body) = .next (s.deliver (.err e)) := by
  simp [guarded, h]

/-- An operation the prologue refuses writes nothing (R210). -/
theorem exec_prologue {i : Instr} {s : State} {e : Error} (h : prologue i.operation s = some e) :
    exec i s = .next (s.deliver (.err e)) := by
  cases i <;> simp only [Instr.operation] at h <;> first
    | exact finish_guarded_some h _
    | simp only [exec, execReadProductType, execReadSerial, execReadFwVersion, execReadAutoclean, execReadStatus,
        readProductType, readSerial, readFwVersion, readAutoclean, readStatus, guarded, h, raise_eq, Ran.andThen_raised,
        finish_raised]

/-- A write-only command in a session state that allows it (R231). -/
theorem exec_write {i : Instr} {cmd : BusCommand} {s : State} (hc : busCommandOf i = some cmd) (hr : rlen cmd = 0)
    (hl : legalIn cmd s.ss = true) (hs : s.life = .ready) :
    exec i s = finish ((doWriteCmd cmd i.argument s).andThen fun _ t => .done .done (writtenState cmd t)) := by
  cases i <;> simp only [busCommandOf, Option.some.injEq, reduceCtorEq] at hc <;> subst hc <;>
    first
      | (exact absurd hr (by decide))
      | (simp only [exec, execStartFanClean, execClearStatus, execWriteAutoclean, execReset]
         rw [guarded_ready (by decide) hs]
         rfl)
      | (cases h : s.ss <;> simp only [h, legalIn] at hl <;> first
          | (exact absurd hl (by decide))
          | (simp only [exec, execStartMeas, execStopMeas, execSleep, execWakeup]
             rw [guarded_ready (by decide) hs]
             simp only [h]
             rfl))

/-- A single-field read (R232, R154). -/
theorem exec_readField {i : Instr} {cmd : BusCommand} {s : State} (hc : busCommandOf i = some cmd)
    (hf : singleFieldRead cmd = true) (hs : s.life = .ready) :
    exec i s = finish ((readField cmd s).andThen fun r t => .done (fieldResult cmd r) t) := by
  cases i <;> simp only [busCommandOf, Option.some.injEq, reduceCtorEq] at hc <;> subst hc <;>
    first
      | (exact absurd hf (by decide))
      | (simp only [exec, execReadDataReady, execReadProductType, execReadSerial, execReadFwVersion, execReadAutoclean,
           execReadStatus, readProductType, readSerial, readFwVersion, readAutoclean, readStatus]
         rw [guarded_ready (by decide) hs]
         first
           | rfl
           | (simp only [Ran.andThen_assoc, Ran.andThen_done]
              rfl))

/-- `READ_MEAS` while measuring (R215). -/
theorem exec_readMeas {s : State} (hm : s.ss = .measuring) (hs : s.life = .ready) :
    exec .readMeas s = finish (measure s) := by
  simp only [exec, execReadMeas]
  rw [guarded_ready (by decide) hs]
  simp only [hm]

/-- A bus command in a session state with no arrow for it (R229, R255). -/
theorem exec_illegal {i : Instr} {cmd : BusCommand} {s : State} (hc : busCommandOf i = some cmd)
    (hl : legalIn cmd s.ss = false) (hs : s.life = .ready) : exec i s = .next (s.deliver (refusalHere i s.ss)) := by
  cases i <;> simp only [busCommandOf, Option.some.injEq, reduceCtorEq] at hc <;> subst hc <;>
    cases h : s.ss <;> simp only [h, legalIn] at hl <;> first
      | (exact absurd hl (by decide))
      | (simp only [exec, execStartMeas, execStopMeas, execSleep, execWakeup, execReadMeas]
         rw [guarded_ready (by decide) hs]
         simp only [h]
         first | rfl | simp [illegalHere, h, refusalHere, Instr.operation])

/-- `SET_WINDOW` (R227). -/
theorem exec_setWindow {s : State} (n : Nat) (hs : s.life = .ready) :
    exec (.setWindow n) s = if WindowIllegal s.params n then .next (s.deliver (.err (.windowConfig n)))
      else .next ((s.setWindow n).deliver .done) := by
  simp only [exec, execSetWindow]
  rw [guarded_ready (by decide) hs]
  unfold setWindow
  split <;> simp

/-- `INIT` past its prologue (R211). -/
theorem exec_init {s : State} (n : Nat) (hs : s.life = .uninit) :
    exec (.init n) s = if WindowIllegal s.params n then .next (s.deliver (.err (.windowConfig n)))
      else match s.env.nextProbe with
        | .absent => .next ((s.setEnv (s.env.probed s.params)).deliver (.err .connection))
        | .present => .next (((s.setEnv (s.env.probed s.params)).initialised n).deliver .done) := by
  simp only [exec, execInit, guarded, (prologue_init_eq_none_iff s).mpr hs]
  split
  · simp
  · cases h : s.env.nextProbe <;> simp [State.call, Env.after, Env.probed, h]

/-- Which shape an instruction has. -/
theorem instr_cases (i : Instr) : (∃ n, i = .init n) ∨ (∃ n, i = .setWindow n) ∨ i = .deviceInfo ∨ i = .readMeas ∨
    (∃ cmd, busCommandOf i = some cmd ∧ singleFieldRead cmd = true) ∨ (∃ cmd, busCommandOf i = some cmd ∧ rlen cmd = 0) := by
  cases i <;> simp [busCommandOf, singleFieldRead, rlen, packetCount]

/-- A read inside `DEVICE_INFO`: in a session that is up it is its body, and what follows takes the value (R228). -/
theorem guardedRead_andThen {α β : Type} {op : Operation} (ho : op ≠ .init) {s : State} (hs : s.life = .ready)
    (cmd : BusCommand) (f : Option (List Byte) → α) (k : α → State → Ran β) :
    (guarded op s fun s => (readField cmd s).andThen fun r s => .done (f r) s).andThen k =
      (readField cmd s).andThen fun r s => k (f r) s := by
  rw [guarded_ready ho hs, Ran.andThen_assoc]
  rfl

/-- `DEVICE_INFO` in a session that is up: the five reads, then the record (R228). -/
theorem exec_deviceInfo {s : State} (hs : s.life = .ready) : exec .deviceInfo s = finish (
    (readProductType s).andThen fun pt s =>
    (readSerial s).andThen fun sn s =>
    (readFwVersion s).andThen fun fw s =>
    (readAutoclean s).andThen fun ac s =>
    (readStatus s).andThen fun st s =>
      .done (.infoOut
        { productType := pt, serial := sn, firmware := fw, autocleanSeconds := ac, status := st,
          statusFlags := statusFlags s.params st.2, measuring := s.measuring,
          errCum := s.errCum, errLast := s.errLast, valid := s.valid, winN := s.winN }) s) := by
  simp only [exec, execDeviceInfo]
  rw [guarded_ready (by decide) hs]

/-- What `READ_MEAS` delivers and leaves in the window (R215). -/
theorem deliverFrame_cases (r : Option Frame) (s : State) :
    (r = none ∧ deliverFrame r s = .done (.noFrame .rejected) s) ∨
    (∃ f m, r = some f ∧ (aggPush f s).1 = some m ∧ deliverFrame r s = .done (.frameOut m) (aggPush f s).2) ∨
    (∃ f, r = some f ∧ (aggPush f s).1 = none ∧ deliverFrame r s = .done (.noFrame .filling) (aggPush f s).2) := by
  cases r with
  | none => exact .inl ⟨rfl, rfl⟩
  | some f =>
    simp only [deliverFrame]
    cases h : (aggPush f s).1 with
    | none => exact .inr (.inr ⟨f, rfl, h, rfl⟩)
    | some m => exact .inr (.inl ⟨f, m, rfl, h, rfl⟩)

/-- Everything a measurement attempt can do (R215): an exchange decoded, a response of another length, or an `io_fail`. -/
theorem measure_cases (s : State) :
    (∃ raw, s.env.nextWrite = .ok ∧ s.env.nextRead = .bytes raw ∧ raw.length = 60 ∧ measure s =
      deliverFrame (if (measFrame raw).v.accepted then some (measFrame raw) else none) { s with
        errLast := counted 0 (invalidFields raw)
        errCum := counted s.errCum (invalidFields raw)
        valid := (measFrame raw).v
        env := s.env.exchanged s.params (encodeFrame s.params .readMeas 0) s.params.settle.readMeas 60 raw }) ∨
    (∃ raw, s.env.nextWrite = .ok ∧ s.env.nextRead = .bytes raw ∧ raw.length ≠ 60 ∧ measure s =
      .raised (.lengthMismatch 60 raw.length) { s with
        errLast := 0
        env := s.env.exchanged s.params (encodeFrame s.params .readMeas 0) s.params.settle.readMeas 60 raw }) ∨
    (s.env.nextWrite = .ioFail ∧ measure s = .raised (ioError s.env.nextReset .write) { s with
        life := lifeAfterIoFail s.env.nextReset s.life
        errLast := 0
        env := s.env.writeFailed s.params (encodeFrame s.params .readMeas 0) }) ∨
    (s.env.nextWrite = .ok ∧ s.env.nextRead = .ioFail ∧
      measure s = .raised (ioError s.env.nextReset .read) { s with
        life := lifeAfterIoFail s.env.nextReset s.life
        errLast := 0
        env := s.env.readFailed s.params (encodeFrame s.params .readMeas 0) s.params.settle.readMeas 60 }) := by
  rcases doReadCmd_cases .readMeas s with ⟨raw, hw, hr, he⟩ | ⟨hw, he⟩ | ⟨hw, hr, he⟩
  · by_cases h : raw.length = 60
    · refine .inl ⟨raw, hw, hr, h, ?_⟩
      rw [measure, he, Ran.andThen_done, assembleMeasurement_ok h, Ran.andThen_done]
      rfl
    · refine .inr (.inl ⟨raw, hw, hr, h, ?_⟩)
      rw [measure, he, Ran.andThen_done, assembleMeasurement_bad h]
      rfl
  · exact .inr (.inr (.inl ⟨hw, by rw [measure, he]; rfl⟩))
  · exact .inr (.inr (.inr ⟨hw, hr, by rw [measure, he]; rfl⟩))

end Sys2Proof.Machine
end

