-- ==== Sys2Proof/Laws/Float.lean ====
section
/-! SUPPORT. The fields of a word as numbers, and words and values inverse to each other (spec/43_float_decoder.md R160 to
R163): what the mean writes is read back as the value it rounded to. -/

namespace Sys2Proof.Machine

/-- `e = w[30:23]`, as a number. -/
theorem floatExponent_eq (w : Word) : floatExponent w = w.toNat / 2 ^ 23 % 256 := by
  simp [floatExponent, Nat.shiftRight_eq_div_pow]

/-- `f = w[22:0]`, as a number. -/
theorem floatFraction_eq (w : Word) : floatFraction w = w.toNat % 2 ^ 23 := by simp [floatFraction]

/-- `s = w[31]`, as a comparison. -/
theorem floatSign_eq (w : Word) : floatSign w = decide (2 ^ 31 ≤ w.toNat) := by
  have := w.isLt
  simp only [floatSign, BitVec.getLsbD, Nat.testBit_eq_decide_div_mod_eq]
  congr 1
  simp
  omega

theorem floatExponent_lt (w : Word) : floatExponent w < 256 := by
  rw [floatExponent_eq]
  exact Nat.mod_lt _ (by omega)

theorem floatFraction_lt (w : Word) : floatFraction w < 2 ^ 23 := by
  rw [floatFraction_eq]
  exact Nat.mod_lt _ (by omega)

/-- A word is its three fields. -/
theorem floatWord_toNat (s : Bool) {e f : Nat} (he : e < 256) (hf : f < 2 ^ 23) :
    (floatWord s e f).toNat = s.toNat * 2 ^ 31 + e * 2 ^ 23 + f := by
  have h1 : (floatWord s e f).toNat = (BitVec.ofBool s ++ BitVec.ofNat 8 e : BitVec (1 + 8)).toNat <<< 23 ||| f := by
    rw [floatWord, BitVec.toNat_append, BitVec.toNat_ofNat, Nat.mod_eq_of_lt hf]
  have h2 : (BitVec.ofBool s ++ BitVec.ofNat 8 e : BitVec (1 + 8)).toNat = s.toNat * 2 ^ 8 + e := by
    rw [BitVec.toNat_append, BitVec.toNat_ofNat, Nat.mod_eq_of_lt (by omega), BitVec.toNat_ofBool, Nat.shiftLeft_eq,
      Nat.mul_comm]
    exact (Nat.two_pow_add_eq_or_of_lt (by omega) _).symm
  rw [h1, h2, Nat.shiftLeft_eq, Nat.mul_comm, ← Nat.two_pow_add_eq_or_of_lt hf]
  omega

theorem floatExponent_floatWord (s : Bool) {e f : Nat} (he : e < 256) (hf : f < 2 ^ 23) :
    floatExponent (floatWord s e f) = e := by
  rw [floatExponent_eq, floatWord_toNat s he hf]
  cases s <;> simp <;> omega

theorem floatFraction_floatWord (s : Bool) {e f : Nat} (he : e < 256) (hf : f < 2 ^ 23) :
    floatFraction (floatWord s e f) = f := by
  rw [floatFraction_eq, floatWord_toNat s he hf]
  cases s <;> simp <;> omega

theorem floatSign_floatWord (s : Bool) {e f : Nat} (he : e < 256) (hf : f < 2 ^ 23) : floatSign (floatWord s e f) = s := by
  rw [floatSign_eq, floatWord_toNat s he hf]
  cases s <;> simp <;> omega

/-- Taking a word apart and putting it together again gives the word (R160). -/
theorem floatWord_fields (w : Word) : floatWord (floatSign w) (floatExponent w) (floatFraction w) = w := by
  apply BitVec.eq_of_toNat_eq
  rw [floatWord_toNat _ (floatExponent_lt w) (floatFraction_lt w), floatSign_eq, floatExponent_eq, floatFraction_eq]
  have := w.isLt
  by_cases h : 2 ^ 31 ≤ w.toNat <;> simp only [h, decide_true, decide_false, Bool.toNat_true, Bool.toNat_false] <;> omega

/-- The finite values of words are those a 24-bit significand holds, below `2^128` (R162). -/
theorem representable_of_f32Val {w : Word} {s : Bool} {m : Nat} (h : f32Val w = .finite s m) :
    Representable m ∧ m < overflowUnits := by
  have he := floatExponent_lt w
  have hf := floatFraction_lt w
  have h0 : 2 ^ 24 ≤ overflowUnits := Nat.le_mul_of_pos_right _ (by positivity)
  unfold f32Val f32Class at h
  by_cases e0 : floatExponent w = 0
  · by_cases f0 : floatFraction w = 0
    · simp only [e0, f0, if_true, FloatValue.finite.injEq] at h
      exact ⟨⟨0, 0, by omega, by omega⟩, by omega⟩
    · simp only [e0, f0, if_true, if_false, FloatValue.finite.injEq] at h
      exact ⟨⟨m, 0, by omega, by simp⟩, by omega⟩
  · by_cases e1 : floatExponent w = 255
    · by_cases f0 : floatFraction w = 0 <;> simp [e1, f0] at h
    · simp only [e0, e1, if_false, FloatValue.finite.injEq] at h
      obtain ⟨-, rfl⟩ := h
      refine ⟨⟨_, _, by omega, rfl⟩, ?_⟩
      calc (2 ^ 23 + floatFraction w) * 2 ^ (floatExponent w - 1)
          < 2 ^ 24 * 2 ^ (floatExponent w - 1) := Nat.mul_lt_mul_of_pos_right (by omega) (by positivity)
        _ ≤ overflowUnits := Nat.mul_le_mul_left _ (Nat.pow_le_pow_right (by omega) (by omega))

/-- The word written for a representable value is read back as that value (R162). -/
theorem f32Val_wordOfFloat_finite (nan : NaNWord) (s : Bool) {m : Nat} (h : Representable m) (hb : m < overflowUnits) :
    f32Val (wordOfFloat nan (.finite s m)) = .finite s m := by
  by_cases hm : m < 2 ^ 23
  · have hz : (0 : Nat) < 256 := by omega
    simp only [wordOfFloat, if_pos hm, f32Val, f32Class, floatExponent_floatWord s hz hm, floatFraction_floatWord s hz hm,
      floatSign_floatWord s hz hm, if_true]
    by_cases h0 : m = 0 <;> simp [h0]
  · obtain ⟨a, e, ha, hae⟩ := h
    have hm0 : m ≠ 0 := by omega
    have hl1 : 2 ^ m.log2 ≤ m := Nat.log2_self_le hm0
    have hl2 : m < 2 ^ (m.log2 + 1) := Nat.lt_log2_self
    have hl23 : 23 ≤ m.log2 := (Nat.le_log2 hm0).mpr (by omega)
    have hl277 : m.log2 < 24 + 253 := (Nat.log2_lt hm0).mpr (Nat.pow_add 2 24 253 ▸ hb)
    set l := m.log2 with hl
    have hle : l - 23 ≤ e := by
      have h1 : 2 ^ l < 2 ^ (24 + e) := by
        calc 2 ^ l ≤ a * 2 ^ e := hae ▸ hl1
          _ < 2 ^ 24 * 2 ^ e := Nat.mul_lt_mul_of_pos_right ha (by positivity)
          _ = 2 ^ (24 + e) := (pow_add 2 24 e).symm
      have := (Nat.pow_lt_pow_iff_right (by omega : 1 < 2)).mp h1
      omega
    obtain ⟨c, hc⟩ : 2 ^ (l - 23) ∣ m := (pow_dvd_pow 2 hle).trans (Dvd.intro_left a hae.symm)
    have hpos : 0 < 2 ^ (l - 23) := by positivity
    have hp1 : 2 ^ l = 2 ^ (l - 23) * 2 ^ 23 := by rw [← pow_add]; congr 1; omega
    have hp2 : 2 ^ (l + 1) = 2 ^ (l - 23) * 2 ^ 24 := by rw [← pow_add]; congr 1; omega
    have hc1 : 2 ^ 23 ≤ c := by
      rw [hc, hp1] at hl1
      exact Nat.le_of_mul_le_mul_left hl1 hpos
    have hc2 : c < 2 ^ 24 := by
      rw [hc, hp2] at hl2
      exact Nat.lt_of_mul_lt_mul_left hl2
    have hdiv : m / 2 ^ (l - 23) = c := by
      rw [hc]
      exact Nat.mul_div_cancel_left _ hpos
    have hE : l - 22 < 256 := by omega
    have hF : c - 2 ^ 23 < 2 ^ 23 := by omega
    have hw : wordOfFloat nan (.finite s m) = floatWord s (l - 22) (c - 2 ^ 23) := by
      rw [wordOfFloat, if_neg hm, ← hl, hdiv]
    have he0 : l - 22 ≠ 0 := by omega
    have he1 : l - 22 ≠ 255 := by omega
    rw [hw]
    simp only [f32Val, f32Class, floatExponent_floatWord s hE hF, floatFraction_floatWord s hE hF, floatSign_floatWord s hE hF,
      if_neg he0, if_neg he1]
    rw [show 2 ^ 23 + (c - 2 ^ 23) = c by omega, show l - 22 - 1 = l - 23 by omega, hc, Nat.mul_comm]

/-- An infinity is written as the word of that infinity. -/
theorem f32Val_wordOfFloat_infinity (nan : NaNWord) (s : Bool) :
    f32Val (wordOfFloat nan (.infinity s)) = .infinity s := by
  have he : (255 : Nat) < 256 := by omega
  have hf : (0 : Nat) < 2 ^ 23 := by omega
  simp [wordOfFloat, f32Val, f32Class, floatExponent_floatWord s he hf, floatFraction_floatWord s he hf,
    floatSign_floatWord s he hf]

/-- Whatever the free NaN word, it is a NaN (R204). -/
theorem f32Val_wordOfFloat_nan (nan : NaNWord) : f32Val (wordOfFloat nan .nan) = .nan := by
  have he : (255 : Nat) < 256 := by omega
  have hf : nan.fractionMinusOne.val + 1 < 2 ^ 23 := by
    have := nan.fractionMinusOne.isLt
    omega
  simp [wordOfFloat, f32Val, f32Class, floatExponent_floatWord nan.sign he hf, floatFraction_floatWord nan.sign he hf]

end Sys2Proof.Machine
end

