-- ==== Sys2Proof/Laws/PerInstr.lean ====
section
/-! SUPPORT. A statement per instruction about its host encoding (spec/30_encoding.md R91): an `ARG` given to an operation
that does not use it "is ignored and has no effect", and the operations that use it read the whole of it. -/

namespace Sys2Proof.Laws.ArgIgnored

/-- With the selector of `i` and any `ARG`, the decoder gives `i`, or, for the three operations that use `ARG`, the operation
of `i` on that `ARG`. -/
def Statement (i : Instr) : Prop :=
  ∀ arg : Word, decode ⟨(encode i).opsel, arg⟩ =
    if i.operation = .init then .ok (.init arg.toNat)
    else if i.operation = .setWindow then .ok (.setWindow arg.toNat)
    else if i.operation = .writeAutoclean then .ok (.writeAutoclean arg)
    else .ok i

theorem init (n : Nat) : Statement (.init n) := fun _ => rfl
theorem startMeas : Statement .startMeas := fun _ => rfl
theorem stopMeas : Statement .stopMeas := fun _ => rfl
theorem readDataReady : Statement .readDataReady := fun _ => rfl
theorem readMeas : Statement .readMeas := fun _ => rfl
theorem sleep : Statement .sleep := fun _ => rfl
theorem wakeup : Statement .wakeup := fun _ => rfl
theorem startFanClean : Statement .startFanClean := fun _ => rfl
theorem readAutoclean : Statement .readAutoclean := fun _ => rfl
theorem writeAutoclean (v : Word) : Statement (.writeAutoclean v) := fun _ => rfl
theorem readProductType : Statement .readProductType := fun _ => rfl
theorem readSerial : Statement .readSerial := fun _ => rfl
theorem readFwVersion : Statement .readFwVersion := fun _ => rfl
theorem readStatus : Statement .readStatus := fun _ => rfl
theorem clearStatus : Statement .clearStatus := fun _ => rfl
theorem reset : Statement .reset := fun _ => rfl
theorem setWindow (n : Nat) : Statement (.setWindow n) := fun _ => rfl
theorem deviceInfo : Statement .deviceInfo := fun _ => rfl

end Sys2Proof.Laws.ArgIgnored
end

