-- ==== Sys2Proof/Tests/Slice0.lean ====
section
/-! SUPPORT. Tests of the model on the spec's own vectors (spec/95_test_vectors.md, and the tables of the rules named), and
for every statement with hypotheses a witness: a concrete state and operands that meet all of them together. -/

namespace Sys2Proof.Tests
open Sys2Proof Sys2Proof.Machine

-- one evaluation at a time: side by side they take more threads than the sandbox allows
set_option Elab.async false

/-! ### Helpers -/

/-- Fifteen different settle delays, so that a delay taken from the wrong command shows. -/
def delays : PerCommand Nat := ⟨1, 2, 3, 4, 5, 6, 7, 8, 9, 10, 11, 12, 13, 14, 15⟩

/-- The default parameters of R6 and R85, `NMAX = 16` (95_test_vectors.md, section 6), the default mean. -/
def demoParams : Params := Params.generalKnowledge delays 15 .binary32

/-- The block after a hardware reset. -/
def fresh : State := ⟨demoParams, .uninit, .idle, false, noSections, 0, 0, 1, [], Env.fresh, [], []⟩

/-- The block after `INIT 1`. -/
def idle : State := fresh.setLife .ready

/-- The block after `INIT n` and `START_MEAS`. -/
def measuring (n : Nat) : State := ((idle.setWindow n).setMode .measuring true)

/-- The block asleep. -/
def asleep : State := idle.setMode .sleeping false

/-- A block whose bus reset has failed. -/
def dead : State := idle.setLife .fatal

/-- The answers the environment gives next. -/
def talk (s : State) (ws : List WriteOutcome) (rs : List ReadOutcome) (qs : List ResetOutcome) : State :=
  s.setEnv ⟨⟨ws, 0⟩, ⟨rs, 0⟩, ⟨qs, 0⟩, ⟨[], 0⟩, []⟩

/-- The answer to the next probe. -/
def probed (s : State) (o : ProbeOutcome) : State := s.setEnv ⟨⟨[], 0⟩, ⟨[], 0⟩, ⟨[], 0⟩, ⟨[o], 0⟩, []⟩

/-- A device that acknowledges every write and returns `raw`. -/
def answers (s : State) (raw : List Byte) : State := talk s [.ok] [.bytes raw] []

/-- The state of a next outcome. -/
def next? (o : Host.Outcome State Fault Refusal) : Option State :=
  match o with
  | .next s => some s
  | .fault _ => none
  | .refused _ => none

/-- The result an instruction returns to the host. -/
def result (i : Instr) (s : State) : Option Result := (next? (exec i s)).bind fun t => t.results.getLast?

/-- The tuple of R20 after an instruction. -/
def tupleAfter (i : Instr) (s : State) : Option Tuple := (next? (exec i s)).map State.tuple

/-- The Transport calls of an instruction. -/
def callsOf (i : Instr) (s : State) : Option (List Call) := (next? (exec i s)).map fun t => t.env.calls

theorem next_of_isSome {o : Host.Outcome State Fault Refusal} (h : (next? o).isSome = true) : ∃ t, o = .next t := by
  cases o with
  | next s => exact ⟨s, rfl⟩
  | fault f => simp [next?] at h
  | refused r => simp [next?] at h

theorem next_with {o : Host.Outcome State Fault Refusal} {p : State → Prop} [DecidablePred p]
    (h : (next? o).any (fun t => decide (p t)) = true) : ∃ t, o = .next t ∧ p t := by
  cases o with
  | next s => exact ⟨s, rfl, by simpa [next?] using h⟩
  | fault f => simp [next?] at h
  | refused r => simp [next?] at h

/-- Frame A of 95_test_vectors.md section 4. -/
def rawA : List Byte :=
  [0x3F, 0xC0, 0xED, 0x00, 0x00, 0x81, 0x40, 0x20, 0x8E, 0x00, 0x00, 0x81, 0x40, 0x60, 0xB3, 0x00, 0x00, 0x81,
   0x40, 0x90, 0x31, 0x00, 0x00, 0x81, 0x41, 0x20, 0x7A, 0x00, 0x00, 0x81, 0x41, 0x30, 0x39, 0x00, 0x00, 0x81,
   0x41, 0x40, 0xC1, 0x00, 0x00, 0x81, 0x41, 0x50, 0x82, 0x00, 0x00, 0x81, 0x41, 0x60, 0x47, 0x00, 0x00, 0x81,
   0x41, 0x20, 0x7A, 0x00, 0x00, 0x81]

/-- The words of frame A. -/
def frameA : Frame := ⟨#v[0x3FC00000, 0x40200000, 0x40600000, 0x40900000, 0x41200000, 0x41300000, 0x41400000, 0x41500000, 0x41600000, 0x41200000],
  allSections⟩

/-- Frame B of 95_test_vectors.md section 4. -/
def rawB : List Byte :=
  [0x40, 0x20, 0x8E, 0x00, 0x00, 0x81, 0x40, 0x60, 0xB3, 0x00, 0x00, 0x81, 0x40, 0x90, 0x31, 0x00, 0x00, 0x81,
   0x40, 0xB0, 0xB7, 0x00, 0x00, 0x81, 0x41, 0xA0, 0x00, 0x00, 0x00, 0x81, 0x41, 0xA8, 0xB9, 0x00, 0x00, 0x81,
   0x41, 0xB0, 0x43, 0x00, 0x00, 0x81, 0x41, 0xB8, 0xFA, 0x00, 0x00, 0x81, 0x41, 0xC0, 0xBB, 0x00, 0x00, 0x81,
   0x41, 0xA0, 0x00, 0x00, 0x00, 0x81]

/-- The words of frame B. -/
def frameB : Frame := ⟨#v[0x40200000, 0x40600000, 0x40900000, 0x40B00000, 0x41A00000, 0x41A80000, 0x41B00000, 0x41B80000, 0x41C00000, 0x41A00000],
  allSections⟩

/-- Frame C of 95_test_vectors.md section 4. -/
def rawC : List Byte :=
  [0x40, 0x60, 0xB3, 0x00, 0x00, 0x81, 0x40, 0x90, 0x31, 0x00, 0x00, 0x81, 0x40, 0xB0, 0xB7, 0x00, 0x00, 0x81,
   0x40, 0xD0, 0x0C, 0x00, 0x00, 0x81, 0x41, 0xF0, 0x7E, 0x00, 0x00, 0x81, 0x41, 0xF8, 0xC7, 0x00, 0x00, 0x81,
   0x42, 0x00, 0xD1, 0x00, 0x00, 0x81, 0x42, 0x04, 0x15, 0x00, 0x00, 0x81, 0x42, 0x08, 0x68, 0x00, 0x00, 0x81,
   0x41, 0xF0, 0x7E, 0x00, 0x00, 0x81]

/-- The words of frame C. -/
def frameC : Frame := ⟨#v[0x40600000, 0x40900000, 0x40B00000, 0x40D00000, 0x41F00000, 0x41F80000, 0x42000000, 0x42040000, 0x42080000, 0x41F00000],
  allSections⟩

/-- `A9`: byte 59 of frame A is `80`. -/
def rawA9 : List Byte := rawA.set 59 0x80

/-- `A02`: byte 2 of frame A is `6D`, byte 12 is `41`. -/
def rawA02 : List Byte := (rawA.set 2 0x6D).set 12 0x41

/-- `A4`: byte 26 of frame A is `85`, byte 29 is `7E`. -/
def rawA4 : List Byte := (rawA.set 26 0x85).set 29 0x7E

/-- The product-type response of 95_test_vectors.md section 3.2. -/
def rawProduct : List Byte := [0x30, 0x30, 0xF6, 0x30, 0x38, 0x4F, 0x30, 0x30, 0xF6, 0x30, 0x30, 0xF6]

/-- The serial response of 95_test_vectors.md section 3.2. -/
def rawSerial : List Byte :=
  [0x30, 0x31, 0xC7, 0x32, 0x33, 0x7C, 0x34, 0x35, 0x80, 0x36, 0x37, 0x3B, 0x38, 0x39, 0x49, 0x41, 0x42, 0xA3,
   0x43, 0x44, 0xDC, 0x45, 0x46, 0xE4, 0x00, 0x00, 0x81, 0x00, 0x00, 0x81, 0x00, 0x00, 0x81, 0x00, 0x00, 0x81,
   0x00, 0x00, 0x81, 0x00, 0x00, 0x81, 0x00, 0x00, 0x81, 0x00, 0x00, 0x81]

/-! ### Well-formedness: a window size must fit `ARG` (R90) -/

theorem test_wellFormed_init : (Instr.init 4294967295).wellFormed = true ∧ (Instr.init 4294967296).wellFormed = false := by decide
theorem test_wellFormed_setWindow :
    (Instr.setWindow 4294967295).wellFormed = true ∧ (Instr.setWindow 4294967296).wellFormed = false := by decide

/-! ### Decoding: the table of R90, each `OPSEL` as its own number, then the words of the opcode table -/

theorem test_decode_init : decode ⟨0b00000, 3⟩ = .ok (.init 3) := by decide
theorem test_decode_startMeas : decode ⟨0b00001, 3⟩ = .ok .startMeas := by decide
theorem test_decode_stopMeas : decode ⟨0b00010, 3⟩ = .ok .stopMeas := by decide
theorem test_decode_readDataReady : decode ⟨0b00011, 3⟩ = .ok .readDataReady := by decide
theorem test_decode_readMeas : decode ⟨0b00100, 3⟩ = .ok .readMeas := by decide
theorem test_decode_sleep : decode ⟨0b00101, 3⟩ = .ok .sleep := by decide
theorem test_decode_wakeup : decode ⟨0b00110, 3⟩ = .ok .wakeup := by decide
theorem test_decode_startFanClean : decode ⟨0b00111, 3⟩ = .ok .startFanClean := by decide
theorem test_decode_readAutoclean : decode ⟨0b01000, 3⟩ = .ok .readAutoclean := by decide
theorem test_decode_writeAutoclean : decode ⟨0b01001, 3⟩ = .ok (.writeAutoclean 3) := by decide
theorem test_decode_readProductType : decode ⟨0b01010, 3⟩ = .ok .readProductType := by decide
theorem test_decode_readSerial : decode ⟨0b01011, 3⟩ = .ok .readSerial := by decide
theorem test_decode_readFwVersion : decode ⟨0b01100, 3⟩ = .ok .readFwVersion := by decide
theorem test_decode_readStatus : decode ⟨0b01101, 3⟩ = .ok .readStatus := by decide
theorem test_decode_clearStatus : decode ⟨0b01110, 3⟩ = .ok .clearStatus := by decide
theorem test_decode_reset : decode ⟨0b01111, 3⟩ = .ok .reset := by decide
theorem test_decode_setWindow : decode ⟨0b10000, 3⟩ = .ok (.setWindow 3) := by decide
theorem test_decode_deviceInfo : decode ⟨0b10001, 3⟩ = .ok .deviceInfo := by decide
theorem test_decode_unknown : decode ⟨0b10010, 3⟩ = .error (.unknownOp 18) ∧ decode ⟨0b11111, 3⟩ = .error (.unknownOp 31) := by
  decide
/-- `OPSEL` 9 in bits 4..0, `ARG` `0x00093A80` in bits 39..8. -/
theorem test_tableWord : decodeTableWord 40 0x00093A8009 = some (.writeAutoclean 604800) := by decide +kernel
theorem test_tableWord_short : decodeTableWord 8 0x10 = some (.setWindow 0) ∧ decodeTableWord 8 0x1F = none := by decide +kernel
theorem test_fetchWord : (fresh.withFetchWord 8 0x0D).moves = [.operation ⟨13, 0⟩] := by decide +kernel

/-! ### Checksum Engine: 95_test_vectors.md sections 1.2 and 1.3 -/

theorem test_checksum_vectors :
    [(0x00, 0x00, 0x81), (0xFF, 0xFF, 0xAC), (0x03, 0x00, 0xAC), (0x05, 0x00, 0xF6), (0x00, 0x01, 0xB0), (0x01, 0x00, 0x75), (0x80, 0x00, 0xA2), (0x00, 0x80, 0xFB),
     (0x12, 0x34, 0x37), (0x51, 0x80, 0xE8), (0x3A, 0x80, 0xA7), (0x09, 0x00, 0x42), (0x00, 0x09, 0x09), (0x56, 0x78, 0x7D), (0x00, 0x20, 0x07), (0x00, 0x10, 0xC2),
     (0x00, 0x30, 0x44), (0x02, 0x03, 0x0B), (0x30, 0x30, 0xF6), (0x30, 0x38, 0x4F), (0x41, 0x20, 0x7A), (0x42, 0x20, 0x57), (0xEF, 0xBE, 0xCE), (0xBE, 0xEF, 0x92)].all
      (fun (v : Byte × Byte × Byte) => checksum v.1 v.2.1 == v.2.2) = true := by decide +kernel
theorem test_packetOk : packetOk 0xBE 0xEF 0x92 = true ∧ packetOk 0xBE 0xEF 0x93 = false ∧ packetOk 0 0 0 = false ∧
    packetOk 0xFF 0xFF 0xFF = false ∧ packetOk 0 0 0x81 = true := by decide +kernel
theorem test_checksumList_lengths : (match checksumList [0xBE, 0xEF, 0x00] with | .error e => some e | .ok _ => none) =
    some (.checksumInput 3) ∧ (match checksumList [] with | .error e => some e | .ok _ => none) = some (.checksumInput 0) := by
  decide +kernel

/-! ### Command Encoder: R125, R126 -/

theorem test_frame_startMeas : encodeFrame demoParams .startMeas 7 = [0x00, 0x10, 0x03, 0x00, 0xAC] := by decide +kernel
theorem test_frame_stopMeas : encodeFrame demoParams .stopMeas 7 = [0x01, 0x04] := by decide +kernel
theorem test_frame_readDataReady : encodeFrame demoParams .readDataReady 7 = [0x02, 0x02] := by decide +kernel
theorem test_frame_readMeas : encodeFrame demoParams .readMeas 7 = [0x03, 0x00] := by decide +kernel
theorem test_frame_sleep : encodeFrame demoParams .sleep 7 = [0x10, 0x01] := by decide +kernel
theorem test_frame_wakeup : encodeFrame demoParams .wakeup 7 = [0x11, 0x03] := by decide +kernel
theorem test_frame_startFanClean : encodeFrame demoParams .startFanClean 7 = [0x56, 0x07] := by decide +kernel
theorem test_frame_readAutoclean : encodeFrame demoParams .readAutoclean 7 = [0x80, 0x04] := by decide +kernel
theorem test_frame_readProductType : encodeFrame demoParams .readProductType 7 = [0xD0, 0x02] := by decide +kernel
theorem test_frame_readSerial : encodeFrame demoParams .readSerial 7 = [0xD0, 0x33] := by decide +kernel
theorem test_frame_readFwVersion : encodeFrame demoParams .readFwVersion 7 = [0xD1, 0x00] := by decide +kernel
theorem test_frame_readStatus : encodeFrame demoParams .readStatus 7 = [0xD2, 0x06] := by decide +kernel
theorem test_frame_clearStatus : encodeFrame demoParams .clearStatus 7 = [0xD2, 0x10] := by decide +kernel
theorem test_frame_reset : encodeFrame demoParams .reset 7 = [0xD3, 0x04] := by decide +kernel
theorem test_frame_writeAutoclean_604800 :
    encodeFrame demoParams .writeAutoclean 0x00093A80 = [0x80, 0x04, 0x3A, 0x80, 0xA7, 0x00, 0x09, 0x09] := by decide +kernel
theorem test_frame_writeAutoclean_305419896 :
    encodeFrame demoParams .writeAutoclean 0x12345678 = [0x80, 0x04, 0x56, 0x78, 0x7D, 0x12, 0x34, 0x37] := by decide +kernel

/-! ### Local operations: P6 -/

theorem test_init_present : result (.init 2) (probed fresh .present) = some .done ∧
    tupleAfter (.init 2) (probed fresh .present) = some ⟨.ready, .idle, false, noSections, 0, 0, 2, []⟩ := by decide +kernel
theorem test_init_absent : result (.init 2) (probed fresh .absent) = some (.err .connection) ∧
    tupleAfter (.init 2) (probed fresh .absent) = some resetTuple ∧
    callsOf (.init 2) (probed fresh .absent) = some [.probe 0x69 .absent] := by decide +kernel
theorem test_setWindow_same_size_empties : tupleAfter (.setWindow 3) ((measuring 3).setWbuf [frameA, frameB]) =
    some ⟨.ready, .measuring, true, noSections, 0, 0, 3, []⟩ := by decide +kernel
theorem test_setWindow_too_large : result (.setWindow 17) idle = some (.err (.windowConfig 17)) ∧
    tupleAfter (.setWindow 17) idle = some idle.tuple := by decide +kernel

/-! ### Mode-changing commands: P1, P6, P7 -/

theorem test_startMeas : callsOf .startMeas (talk idle [.ok] [] []) =
      some [.memWrite 0x69 [0x00, 0x10, 0x03, 0x00, 0xAC] .ok, .settle 1] ∧
    tupleAfter .startMeas (talk idle [.ok] [] []) = some ⟨.ready, .measuring, true, noSections, 0, 0, 1, []⟩ := by decide +kernel
theorem test_startMeas_writeFails : result .startMeas (talk idle [.ioFail] [] [.ok]) = some (.err (.transport .write)) ∧
    tupleAfter .startMeas (talk idle [.ioFail] [] [.ok]) = some idle.tuple := by decide +kernel
theorem test_stopMeas : tupleAfter .stopMeas (talk (measuring 1) [.ok] [] []) = some idle.tuple := by decide +kernel
theorem test_stopMeas_resetFails :
    result .stopMeas (talk (measuring 1) [.ioFail] [] [.fail]) = some (.err (.busResetFatal (.during .write))) ∧
    tupleAfter .stopMeas (talk (measuring 1) [.ioFail] [] [.fail]) =
      some ⟨.fatal, .measuring, true, noSections, 0, 0, 1, []⟩ := by decide +kernel
theorem test_sleep : tupleAfter .sleep (talk (measuring 1) [.ok] [] []) =
    some ⟨.ready, .sleeping, false, noSections, 0, 0, 1, []⟩ := by decide +kernel
theorem test_sleep_twice : result .sleep asleep = some (.err (.illegalState .sleep (.session .sleeping))) := by decide +kernel
theorem test_wakeup : tupleAfter .wakeup (talk asleep [.ok] [] []) = some idle.tuple := by decide +kernel
theorem test_wakeup_idle : result .wakeup idle = some (.err (.illegalState .wakeup (.session .idle))) := by decide +kernel
/-- P3, step 9: `RESET` keeps `VALID` and the window. -/
theorem test_reset :
    tupleAfter .reset (talk ⟨demoParams, .ready, .measuring, true, allSections, 14, 2, 2, [frameA, frameB], Env.fresh, [], []⟩
      [.ok] [] []) = some ⟨.ready, .idle, false, allSections, 0, 0, 2, [frameA, frameB]⟩ := by decide +kernel

/-! ### Write-only commands: P4, P6 -/

theorem test_startFanClean : callsOf .startFanClean (talk idle [.ok] [] []) =
    some [.memWrite 0x69 [0x56, 0x07] .ok, .settle 7] := by decide +kernel
theorem test_writeAutoclean : callsOf (.writeAutoclean 86400) (talk idle [.ok] [] []) =
    some [.memWrite 0x69 [0x80, 0x04, 0x51, 0x80, 0xE8, 0x00, 0x01, 0xB0] .ok, .settle 9] := by decide +kernel
theorem test_clearStatus : callsOf .clearStatus (talk asleep [.ok] [] []) =
    some [.memWrite 0x69 [0xD2, 0x10] .ok, .settle 14] := by decide +kernel

/-! ### Single-field reads: 95_test_vectors.md section 3.2 -/

theorem test_readDataReady : result .readDataReady (answers idle [0x00, 0x01, 0xB0]) = some (.word16Out true 1) := by decide +kernel
theorem test_readDataReady_bad : result .readDataReady (answers idle [0x00, 0x01, 0xB1]) = some (.word16Out false 0) ∧
    tupleAfter .readDataReady (answers idle [0x00, 0x01, 0xB1]) = some ⟨.ready, .idle, false, noSections, 1, 1, 1, []⟩ := by
  decide +kernel
theorem test_readFwVersion : result .readFwVersion (answers asleep [0x02, 0x03, 0x0B]) = some (.word16Out true 0x0203) := by
  decide +kernel
theorem test_readAutoclean : result .readAutoclean (answers idle [0x3A, 0x80, 0xA7, 0x00, 0x09, 0x09]) =
    some (.word32Out true 0x00093A80) := by decide +kernel
theorem test_readAutoclean_bad : result .readAutoclean (answers idle [0x3A, 0x80, 0xA7, 0x00, 0x09, 0x08]) =
    some (.word32Out false 0) := by decide +kernel
theorem test_readStatus : result .readStatus (answers idle [0x00, 0x20, 0x07, 0x00, 0x30, 0x44]) =
    some (.word32Out true 0x00200030) := by decide +kernel
/-- Two bad packets, one error; then seven bytes. -/
theorem test_readStatus_bad :
    tupleAfter .readStatus (answers idle [0x00, 0x00, 0x80, 0x00, 0x10, 0xC3]) =
      some ⟨.ready, .idle, false, noSections, 1, 1, 1, []⟩ ∧
    result .readStatus (answers idle [0x00, 0x00, 0x81, 0x00, 0x10, 0xC2, 0x00]) = some (.err (.lengthMismatch 6 7)) := by
  decide +kernel
theorem test_readProductType : result .readProductType (answers idle rawProduct) =
    some (.bytesOut true [0x30, 0x30, 0x30, 0x38, 0x30, 0x30, 0x30, 0x30]) := by decide +kernel
theorem test_readProductType_bad : result .readProductType (answers idle (rawProduct.set 5 0x4E)) =
    some (.bytesOut false []) := by decide +kernel
theorem test_readSerial : result .readSerial (answers idle rawSerial) =
    some (.bytesOut true ([0x30, 0x31, 0x32, 0x33, 0x34, 0x35, 0x36, 0x37, 0x38, 0x39, 0x41, 0x42, 0x43, 0x44, 0x45, 0x46] ++
      List.replicate 16 0)) := by decide +kernel
theorem test_readSerial_two_bad_packets :
    tupleAfter .readSerial (answers idle ((rawSerial.set 8 0x90).set 20 0xDD)) =
      some ⟨.ready, .idle, false, noSections, 1, 1, 1, []⟩ := by decide +kernel

/-! ### `READ_MEAS`: 95_test_vectors.md section 4, P2, P3 -/

theorem test_readMeas_passes : result .readMeas (answers (measuring 1) rawA) = some (.frameOut frameA) ∧
    callsOf .readMeas (answers (measuring 1) rawA) =
      some [.memWrite 0x69 [0x03, 0x00] .ok, .settle 4, .memRead 0x69 60 (.bytes rawA)] := by decide +kernel
theorem test_readMeas_corrupted :
    tupleAfter .readMeas (answers (measuring 2) rawA9) =
      some ⟨.ready, .measuring, true, ⟨true, true, false⟩, 1, 1, 2, []⟩ ∧
    tupleAfter .readMeas (answers (measuring 2) rawA02) =
      some ⟨.ready, .measuring, true, ⟨false, true, true⟩, 2, 2, 2, []⟩ ∧
    tupleAfter .readMeas (answers (measuring 2) rawA4) =
      some ⟨.ready, .measuring, true, ⟨true, false, true⟩, 1, 1, 2, []⟩ ∧
    tupleAfter .readMeas (answers (measuring 2) (List.replicate 60 0)) =
      some ⟨.ready, .measuring, true, noSections, 10, 10, 2, []⟩ := by decide +kernel
theorem test_window_mean : result .readMeas (answers ((measuring 3).setWbuf [frameA, frameB]) rawC) =
    some (.frameOut frameB) := by decide +kernel
theorem test_window_fills : result .readMeas (answers (measuring 3) rawA) = some (.noFrame .filling) ∧
    tupleAfter .readMeas (answers (measuring 3) rawA) =
      some ⟨.ready, .measuring, true, allSections, 0, 0, 3, [frameA]⟩ := by decide +kernel

/-! ### `DEVICE_INFO`: P5 -/

/-- The device of P5. -/
def infoDevice : State := talk (idle.setWindow 4) (List.replicate 5 .ok) [.bytes rawProduct, .bytes rawSerial,
  .bytes [0x02, 0x03, 0x0B], .bytes [0x3A, 0x80, 0xA7, 0x00, 0x09, 0x09], .bytes [0x00, 0x20, 0x07, 0x00, 0x30, 0x44]] []

theorem test_deviceInfo : (result .deviceInfo infoDevice).map (fun r => match r with
      | .infoOut i => [i.firmware == (true, 0x0203), i.autocleanSeconds == (true, 604800), i.status == (true, 0x00200030),
          i.statusFlags == ⟨true, true, true⟩, i.serial.1, i.winN == 4, i.errCum == 0]
      | _ => []) = some (List.replicate 7 true) ∧
    tupleAfter .deviceInfo infoDevice = some (idle.setWindow 4).tuple := by decide +kernel
theorem test_deviceInfo_stops :
    result .deviceInfo (talk idle [.ok, .ok] [.bytes rawProduct, .ioFail] [.ok]) = some (.err (.transport .read)) ∧
    (callsOf .deviceInfo (talk idle [.ok, .ok] [.bytes rawProduct, .ioFail] [.ok])).map List.length = some 7 := by decide +kernel

/-! ### Float32 and the mean: 95_test_vectors.md sections 2.2 and 5.2 -/

theorem test_class : f32Class 0x00000001 = .subnormal ∧ f32Class 0x007FFFFF = .subnormal ∧ f32Class 0x00800000 = .normal ∧
    f32Class 0x7F7FFFFF = .normal ∧ f32Class 0x7F800001 = .nan ∧ f32Class 0xFFC00001 = .nan := by decide +kernel
theorem test_value : f32Val 0x00800000 = .finite false (2 ^ 23) ∧ f32Val 0xC2C80000 = .finite true (100 * 2 ^ 149) ∧
    f32Val 0x80000001 = .finite true 1 := by decide +kernel
theorem test_mean_rounded : mean32 .binary32 [0x3DCCCCCD, 0x3E4CCCCD, 0x3E99999A] = 0x3E4CCCCD ∧
    mean32 .binary32 [0x3F800000, 0x33800000] = 0x3F000000 ∧ mean32 .binary32 [0x00000001, 0x00000002] = 0x00000002 := by
  decide +kernel
theorem test_mean_special : mean32 .binary32 [0x7F7FFFFF, 0x7F7FFFFF, 0x7F7FFFFF] = 0x7F800000 ∧
    mean32 .binary32 [0x80000000, 0x80000000] = 0 ∧ mean32 .binary32 [0xFF800000, 0xC0000000] = 0xFF800000 ∧
    meanValue [0x7F800000, 0xFF800000] = .nan ∧ meanValue [0x7FC00000, 0x3F800000] = .nan := by decide +kernel

/-! ### Codes: R21, R22, R250 -/

theorem test_codes : [Life.uninit, .ready, .fatal].map Life.code = [0, 1, 2] ∧
    [Session.idle, .measuring, .sleeping].map Session.code = [0, 1, 2] := by decide
theorem test_error_codes : (Error.connection).code.number = 1 ∧ (Error.transport .read).code.number = 2 ∧
    (Error.lengthMismatch 6 7).code.number = 4 ∧ (Error.checksumInput 1).code.number = 6 ∧
    (Error.illegalState .sleep (.session .idle)).code.number = 7 ∧ (Error.windowConfig 0).code.number = 8 ∧
    (Error.busResetFatal .sticky).code.number = 9 ∧ (Error.unknownOp 18).code.number = 10 ∧
    (Error.notReady 13).code.number = 11 ∧ (Result.noFrame .notMeasuring).code.number = 5 ∧
    (Result.word16Out false 0).code.number = 3 ∧ Result.done.code.number = 0 := by decide

/-! ### Witnesses: for every statement with hypotheses, inputs that meet all of them; each clause at a boundary value -/

/-- A block with one request to run. -/
def asked (s : State) (r : Request) : State := s.setMoves [.operation r]

theorem idle_inv : idle.Inv where
  winN_pos := by decide
  winN_le_nmax := by decide
  winLen_le := by decide
  passThrough_empty := by decide
  wbuf_accepted := by decide
  fan_iff_measuring := by decide
  errLast_le_errCum := by decide
  uninit_at_reset := by decide

theorem witness_StepKeepsInvariant :
    (asked idle ⟨16, 16⟩).Inv ∧ ∃ t, step (asked idle ⟨16, 16⟩) = .next t ∧ t.winN = 16 := by
  refine ⟨⟨by decide, by decide, by decide, by decide, by decide, by decide, by decide, by decide⟩, ?_⟩
  exact next_with (by decide +kernel)

theorem witness_StepRunsDecodedInstruction : (asked idle ⟨13, 0⟩).moves = [.operation ⟨13, 0⟩] ∧
    decode ⟨13, 0⟩ = .ok .readStatus := by decide

theorem witness_PrologueRefusals : dead.life = .fatal ∧ fresh.life = .uninit ∧ idle.life = .ready ∧
    (asked dead ⟨18, 0⟩).moves = [.operation ⟨18, 0⟩] ∧ (asked fresh ⟨31, 0⟩).moves = [.operation ⟨31, 0⟩] ∧
    18 ≤ (18 : BitVec 5).toNat ∧ 18 ≤ (31 : BitVec 5).toNat ∧ (asked dead ⟨18, 0⟩).life = .fatal ∧
    (asked fresh ⟨31, 0⟩).life ≠ .fatal ∧ ∀ n, Instr.readStatus ≠ .init n :=
  ⟨rfl, rfl, rfl, rfl, rfl, by decide, by decide, rfl, by decide, by simp⟩

theorem witness_FatalRefusesEveryOperation : dead.life = .fatal ∧
    (dead.setMoves [.operation ⟨0, 1⟩, .operation ⟨31, 0⟩]).moves = [⟨0, 1⟩, ⟨31, 0⟩].map HostMove.operation := by decide

theorem witness_HardwareResetRestoresTuple : (dead.setMoves [.hardwareReset]).moves = .hardwareReset :: [] := rfl

theorem witness_InterruptedOperationResets :
    ((answers idle [0x00, 0x01, 0xB0]).setMoves [.interrupted ⟨3, 0⟩ 2]).moves = .interrupted ⟨3, 0⟩ 2 :: [] := rfl

theorem witness_DecodeEncodeAgree : (Instr.init 4294967295).wellFormed = true ∧ decode ⟨16, 0xFFFFFFFF⟩ =
    .ok (.setWindow 4294967295) ∧ (Instr.setWindow 4294967295).operation = .setWindow ∧
    decode ⟨18, 0⟩ = .error (.unknownOp 18) ∧ decode ⟨17, 0⟩ = .ok .deviceInfo := by decide +kernel

theorem witness_ChecksumDetectsOneBadByte : packetOk 0xBE 0xEF 0x92 = true ∧ (0xBF : Byte) ≠ 0xBE ∧ (0xEE : Byte) ≠ 0xEF ∧
    (0x93 : Byte) ≠ 0x92 := by decide +kernel

theorem witness_ChecksumListRejectsOtherLengths : [(0xBE : Byte)].length ≠ 2 ∧ [(0xBE : Byte), 0xEF, 0].length ≠ 2 ∧
    ∃ t, exec .readStatus fresh = .next t :=
  ⟨by decide, by decide, next_of_isSome (by decide +kernel)⟩

/-- Both clauses at the end of the response, and the field of no packets. -/
theorem witness_FieldDecodeVerdict : 54 + 3 * 2 ≤ rawA.length ∧ (∀ j < 2, packetChecks rawA (54 + 3 * j) = true) ∧
    54 + 3 * 2 ≤ rawA9.length ∧ (∃ j < 2, packetChecks rawA9 (54 + 3 * j) = false) ∧ 60 + 3 * 0 ≤ rawA.length :=
  ⟨by decide +kernel, by decide +kernel, by decide +kernel, ⟨1, by decide, by decide +kernel⟩, by decide +kernel⟩

theorem witness_ReadWord16Results : (answers idle [0x00, 0x01, 0xB0]).life = .ready ∧
    (answers idle [0x00, 0x01, 0xB0]).env.nextWrite = .ok ∧
    (answers idle [0x00, 0x01, 0xB0]).env.nextRead = .bytes [0x00, 0x01, 0xB0] ∧
    (answers idle [0x00, 0x01, 0xB1]).env.nextRead = .bytes [0x00, 0x01, 0xB1] ∧
    checksum 0x00 0x01 = 0xB0 ∧ checksum 0x00 0x01 ≠ 0xB1 := by decide +kernel

theorem witness_ReadWord32Results : (answers idle [0x00, 0x20, 0x07, 0x00, 0x30, 0x44]).life = .ready ∧
    (answers idle [0x00, 0x20, 0x07, 0x00, 0x30, 0x44]).env.nextWrite = .ok ∧
    (answers idle [0x00, 0x20, 0x07, 0x00, 0x30, 0x44]).env.nextRead = .bytes [0x00, 0x20, 0x07, 0x00, 0x30, 0x44] ∧
    (checksum 0x00 0x20 = 0x07 ∧ checksum 0x00 0x30 = 0x44) ∧
    (answers idle [0x00, 0x20, 0x07, 0x00, 0x30, 0x45]).env.nextRead = .bytes [0x00, 0x20, 0x07, 0x00, 0x30, 0x45] ∧
    (checksum 0x00 0x20 ≠ 0x07 ∨ checksum 0x00 0x30 ≠ 0x45) := by decide +kernel

theorem witness_ReadTextResults : (answers idle rawProduct).life = .ready ∧ (answers idle rawProduct).env.nextWrite = .ok ∧
    (answers idle rawProduct).env.nextRead = .bytes rawProduct ∧ rawProduct.length = 12 ∧
    (∀ j < 4, packetChecks rawProduct (3 * j) = true) ∧ (rawProduct.set 11 0xF7).length = 12 ∧
    (∃ j < 4, packetChecks (rawProduct.set 11 0xF7) (3 * j) = false) ∧ rawSerial.length = 48 ∧
    (∀ j < 16, packetChecks rawSerial (3 * j) = true) ∧ (rawSerial.set 47 0x80).length = 48 ∧
    (∃ j < 16, packetChecks (rawSerial.set 47 0x80) (3 * j) = false) :=
  ⟨rfl, rfl, rfl, rfl, by decide +kernel, rfl, ⟨3, by decide, by decide +kernel⟩, rfl, by decide +kernel, rfl,
    ⟨15, by decide, by decide +kernel⟩⟩

theorem witness_LengthMismatchResult : busCommandOf .readMeas = some .readMeas ∧ rlen .readMeas ≠ 0 ∧
    legalIn .readMeas (measuring 1).ss = true ∧ (answers (measuring 1) (rawA.take 59)).life = .ready ∧
    (answers (measuring 1) (rawA.take 59)).env.nextWrite = .ok ∧
    (answers (measuring 1) (rawA.take 59)).env.nextRead = .bytes (rawA.take 59) ∧ (rawA.take 59).length ≠ rlen .readMeas ∧
    (rawA ++ [0]).length ≠ rlen .readMeas := by decide +kernel

theorem witness_WriteFailureResult : busCommandOf (.writeAutoclean 7) = some .writeAutoclean ∧
    legalIn .writeAutoclean idle.ss = true ∧ (talk idle [.ioFail] [] [.fail]).life = .ready ∧
    (talk idle [.ioFail] [] [.fail]).env.nextWrite = .ioFail := by decide +kernel

theorem witness_ReadFailureResult : busCommandOf .readStatus = some .readStatus ∧ rlen .readStatus ≠ 0 ∧
    legalIn .readStatus idle.ss = true ∧ (talk idle [.ok] [.ioFail] [.ok]).life = .ready ∧
    (talk idle [.ok] [.ioFail] [.ok]).env.nextWrite = .ok ∧ (talk idle [.ok] [.ioFail] [.ok]).env.nextRead = .ioFail := by
  decide +kernel

theorem witness_StartMeasResult : (talk idle [.ok] [] []).life = .ready ∧ (talk idle [.ok] [] []).ss = .idle ∧
    (talk idle [.ok] [] []).env.nextWrite = .ok ∧ (measuring 1).life = .ready ∧ (measuring 1).ss ≠ .idle ∧
    asleep.life = .ready ∧ asleep.ss ≠ .idle := by decide +kernel

theorem witness_StopMeasResult : (talk (measuring 1) [.ok] [] []).life = .ready ∧
    (talk (measuring 1) [.ok] [] []).ss = .measuring ∧ (talk (measuring 1) [.ok] [] []).env.nextWrite = .ok ∧
    idle.life = .ready ∧ idle.ss ≠ .measuring := by decide +kernel

theorem witness_SleepResult : (talk (measuring 1) [.ok] [] []).life = .ready ∧
    (talk (measuring 1) [.ok] [] []).ss ≠ .sleeping ∧ (talk (measuring 1) [.ok] [] []).env.nextWrite = .ok ∧
    asleep.life = .ready ∧ asleep.ss = .sleeping := by decide +kernel

theorem witness_WakeupResult : (talk asleep [.ok] [] []).life = .ready ∧ (talk asleep [.ok] [] []).ss = .sleeping ∧
    (talk asleep [.ok] [] []).env.nextWrite = .ok ∧ (measuring 1).life = .ready ∧ (measuring 1).ss ≠ .sleeping := by
  decide +kernel

theorem witness_ResetCommandResult : (talk asleep [.ok] [] []).life = .ready ∧
    (talk asleep [.ok] [] []).env.nextWrite = .ok := by decide +kernel

/-- An arrow for each disjunct's kind: a session made, and a mode command done. -/
theorem witness_SessionChangesOnlyByArrows :
    (∃ t, exec .sleep (talk (measuring 1) [.ok] [] []) = .next t ∧ t.ss ≠ (talk (measuring 1) [.ok] [] []).ss) ∧
    ∃ t, exec (.init 1) (probed (fresh.setSession .sleeping) .present) = .next t ∧
      t.ss ≠ (probed (fresh.setSession .sleeping) .present).ss :=
  ⟨next_with (by decide +kernel), next_with (by decide +kernel)⟩

theorem witness_WriteOnlyResults : (talk idle [.ok] [] []).life = .ready ∧ (talk idle [.ok] [] []).env.nextWrite = .ok := by
  decide +kernel

/-- Sizes 0 and `NMAX + 1 = 17` on one side, 1 and `NMAX = 16` on the other. -/
theorem witness_InitResult : (probed fresh .absent).life = .uninit ∧ ((0 : Nat) = 0 ∨ nmax demoParams < 0) ∧
    ((17 : Nat) = 0 ∨ nmax fresh.params < 17) ∧ (1 ≤ 1 ∧ 1 ≤ nmax fresh.params) ∧ (1 ≤ 16 ∧ 16 ≤ nmax fresh.params) ∧
    (probed fresh .absent).env.nextProbe = .absent ∧ (probed fresh .present).life = .uninit ∧
    (probed fresh .present).env.nextProbe = .present := by decide +kernel

theorem witness_SetWindowResult : idle.life = .ready ∧ (1 ≤ 1 ∧ 1 ≤ nmax idle.params) ∧ (1 ≤ 16 ∧ 16 ≤ nmax idle.params) ∧
    ((0 : Nat) = 0 ∨ nmax idle.params < 0) ∧ ((17 : Nat) = 0 ∨ nmax idle.params < 17) := by decide +kernel

theorem witness_NotMeasuringGuard : idle.life = .ready ∧ idle.ss ≠ .measuring ∧ asleep.life = .ready ∧
    asleep.ss ≠ .measuring := by decide

/-- One state for each clause: rejected, `N = 1`, filling, just full, full. -/
theorem witness_ReadMeasResult : (answers (measuring 2) rawA).life = .ready ∧ (answers (measuring 2) rawA).ss = .measuring ∧
    (answers (measuring 2) rawA).env.nextWrite = .ok ∧ (answers (measuring 2) rawA).env.nextRead = .bytes rawA ∧
    rawA.length = 60 ∧ (answers (measuring 2) rawA9).env.nextRead = .bytes rawA9 ∧ rawA9.length = 60 ∧
    invalidFields rawA9 ≠ 0 ∧ invalidFields rawA = 0 ∧ (measuring 1).winN = 1 ∧ (measuring 2).winN ≠ 1 ∧
    (measuring 2).wbuf.length + 1 < (measuring 2).winN ∧
    ((measuring 2).setWbuf [frameA]).wbuf.length + 1 = ((measuring 2).setWbuf [frameA]).winN ∧
    ((measuring 2).setWbuf [frameA, frameB]).wbuf ≠ [] ∧
    ((measuring 2).setWbuf [frameA, frameB]).wbuf.length = ((measuring 2).setWbuf [frameA, frameB]).winN := by decide +kernel

theorem witness_MeasurementFieldWords : rawA9.length = 60 ∧
    (packetChecks rawA9 (6 * (0 : Fin 10).val) = true ∧ packetChecks rawA9 (6 * (0 : Fin 10).val + 3) = true) ∧
    (packetChecks rawA9 (6 * (9 : Fin 10).val) = false ∨ packetChecks rawA9 (6 * (9 : Fin 10).val + 3) = false) := by
  decide +kernel

/-- Packet 18 (byte 56) bad, and packet 19 (byte 59) bad. -/
theorem witness_SectionIndependence : (answers (measuring 2) rawA9).life = .ready ∧
    (answers (measuring 2) rawA9).ss = .measuring ∧ (answers (measuring 2) rawA9).env.nextWrite = .ok ∧
    (answers (measuring 2) rawA9).env.nextRead = .bytes rawA9 ∧ rawA9.length = 60 ∧ packetChecks rawA9 (3 * 19) = false ∧
    (∀ j < 20, j ≠ 19 → packetChecks rawA9 (3 * j) = true) ∧ (rawA.set 56 0x7B).length = 60 ∧
    packetChecks (rawA.set 56 0x7B) (3 * 18) = false ∧
    (∀ j < 20, j ≠ 18 → packetChecks (rawA.set 56 0x7B) (3 * j) = true) := by decide +kernel

theorem witness_NoPartialFrameDelivered : ∃ t, step ((answers (measuring 1) rawA).setMoves [.operation ⟨4, 0⟩]) = .next t ∧
    Result.frameOut frameA ∈ t.results := next_with (by decide +kernel)

theorem witness_WindowHoldsLastFrames : 1 < 2 := by decide

/-- A command turned back, a read that failed for good, and a `DEVICE_INFO` stopped at its second read. -/
theorem witness_ErrorsArePrecise :
    (∃ t, exec .sleep asleep = .next t ∧ t.results = asleep.results ++ [.err (.illegalState .sleep (.session .sleeping))]) ∧
    (∃ t, exec .readStatus (talk idle [.ok] [.ioFail] [.fail]) = .next t ∧
      t.results = (talk idle [.ok] [.ioFail] [.fail]).results ++ [.err (.busResetFatal (.during .read))]) ∧
    ∃ t, exec .deviceInfo (talk idle [.ok, .ok] [.bytes rawProduct, .ioFail] [.ok]) = .next t ∧
      t.results = (talk idle [.ok, .ok] [.bytes rawProduct, .ioFail] [.ok]).results ++ [.err (.transport .read)] :=
  ⟨next_with (by decide +kernel), next_with (by decide +kernel), next_with (by decide +kernel)⟩

/-- A failed read; a `DEVICE_INFO` stopped at its second read, one that runs through, and one outside a session. -/
theorem witness_BusTransactionShape : (Instr.readStatus ≠ .deviceInfo ∧
      ∃ t, exec .readStatus (talk idle [.ok] [.ioFail] [.ok]) = .next t ∧ t.env.calls.length = 4) ∧
    ((talk idle [.ok, .ok] [.bytes rawProduct, .ioFail] [.ok]).life = .ready ∧
      ∃ t, exec .deviceInfo (talk idle [.ok, .ok] [.bytes rawProduct, .ioFail] [.ok]) = .next t ∧ t.env.calls.length = 7) ∧
    (infoDevice.life = .ready ∧ ∃ t, exec .deviceInfo infoDevice = .next t ∧ t.env.calls.length = 15) ∧
    (dead.life ≠ .ready ∧ ∃ t, exec .deviceInfo dead = .next t ∧ t.env.calls = []) :=
  ⟨⟨by decide, next_with (by decide +kernel)⟩, ⟨rfl, next_with (by decide +kernel)⟩, ⟨rfl, next_with (by decide +kernel)⟩,
    ⟨by decide, next_with (by decide +kernel)⟩⟩

/-- The bound is met: five exchanges, the last one failing. -/
theorem witness_AtMostSixteenCalls : ∃ t, exec .deviceInfo (talk idle (List.replicate 5 .ok) [.bytes rawProduct,
    .bytes rawSerial, .bytes [0x02, 0x03, 0x0B], .bytes [0x3A, 0x80, 0xA7, 0x00, 0x09, 0x09], .ioFail] [.ok]) = .next t ∧
    t.env.calls.length = 16 := next_with (by decide +kernel)

/-- A single-field read with one error, and a measurement with ten. -/
theorem witness_LastAttemptErrorBound :
    (busCommandOf .readDataReady = some .readDataReady ∧ rlen .readDataReady ≠ 0 ∧
      legalIn .readDataReady (answers idle [0x00, 0x01, 0xB1]).ss = true ∧ (answers idle [0x00, 0x01, 0xB1]).life = .ready ∧
      singleFieldRead .readDataReady = true ∧
      ∃ t, exec .readDataReady (answers idle [0x00, 0x01, 0xB1]) = .next t ∧ t.errLast.toNat = 1) ∧
    (busCommandOf .readMeas = some .readMeas ∧ rlen .readMeas ≠ 0 ∧
      legalIn .readMeas (answers (measuring 1) (List.replicate 60 0)).ss = true ∧
      (answers (measuring 1) (List.replicate 60 0)).life = .ready ∧
      ∃ t, exec .readMeas (answers (measuring 1) (List.replicate 60 0)) = .next t ∧ t.errLast.toNat = 10) :=
  ⟨⟨rfl, by decide, rfl, rfl, rfl, next_with (by decide +kernel)⟩, ⟨rfl, by decide, rfl, rfl, next_with (by decide +kernel)⟩⟩

theorem witness_CumulativeCounterMonotone :
    (∃ t, exec .readDataReady (answers idle [0x00, 0x01, 0xB1]) = .next t ∧ t.errCum = 1) ∧
    Instr.readDataReady ≠ .reset ∧ (∀ n, Instr.readDataReady = .init n → (answers idle [0x00, 0x01, 0xB1]).life ≠ .uninit) ∧
    (∃ t, exec (.init 1) idle = .next t) ∧ Instr.init 1 ≠ .reset ∧ (∀ n, Instr.init 1 = .init n → idle.life ≠ .uninit) :=
  ⟨next_with (by decide +kernel), by decide, by simp, next_of_isSome (by decide +kernel), by decide,
    fun _ _ => by decide⟩

theorem witness_FramesOfWritesAndReads :
    (∃ t, exec .startFanClean (talk idle [.ok] [] []) = .next t ∧ t.results = [.done]) ∧
    (∃ t, exec .deviceInfo infoDevice = .next t ∧ t.env.calls.length = 15) ∧
    ∃ t, exec .readMeas (answers (measuring 3) rawA) = .next t ∧ t.wbuf = [frameA] :=
  ⟨next_with (by decide +kernel), next_with (by decide +kernel), next_with (by decide +kernel)⟩

theorem witness_FramesOfModeAndLocal :
    (∃ t, exec .startMeas (talk idle [.ok] [] []) = .next t ∧ t.ss = .measuring) ∧
    (∃ t, exec .sleep (talk (measuring 1) [.ok] [] []) = .next t ∧ t.ss = .sleeping) ∧
    (∃ t, exec .wakeup (talk asleep [.ok] [] []) = .next t ∧ t.ss = .idle) ∧
    (∃ t, exec .reset (talk (measuring 1) [.ok] [] []) = .next t ∧ t.ss = .idle) ∧
    (∃ t, exec (.setWindow 16) idle = .next t ∧ t.winN = 16) ∧
    ∃ t, exec (.init 16) (probed fresh .present) = .next t ∧ t.winN = 16 :=
  ⟨next_with (by decide +kernel), next_with (by decide +kernel), next_with (by decide +kernel), next_with (by decide +kernel),
    next_with (by decide +kernel), next_with (by decide +kernel)⟩

theorem witness_DeviceInfoResult : infoDevice.life = .ready ∧
    (∀ k < 5, (Answers.skip k infoDevice.env.writes).next Config.freeWrite = .ok) ∧
    (Answers.skip 0 infoDevice.env.reads).next Config.freeRead = .bytes rawProduct ∧
    (Answers.skip 1 infoDevice.env.reads).next Config.freeRead = .bytes rawSerial ∧
    (Answers.skip 2 infoDevice.env.reads).next Config.freeRead = .bytes [0x02, 0x03, 0x0B] ∧
    (Answers.skip 3 infoDevice.env.reads).next Config.freeRead = .bytes [0x3A, 0x80, 0xA7, 0x00, 0x09, 0x09] ∧
    (Answers.skip 4 infoDevice.env.reads).next Config.freeRead = .bytes [0x00, 0x20, 0x07, 0x00, 0x30, 0x44] ∧
    rawProduct.length = 12 ∧ rawSerial.length = 48 := by decide +kernel

/-- The first four responses of `DEVICE_INFO`, with their commands. -/
def fourReads : List (BusCommand × List Byte) := [(.readProductType, rawProduct), (.readSerial, rawSerial),
  (.readFwVersion, [0x02, 0x03, 0x0B]), (.readAutoclean, [0x3A, 0x80, 0xA7, 0x00, 0x09, 0x09])]

/-- A device that gives those four responses; what it answers then. -/
def lastRead (w : WriteOutcome) (r : ReadOutcome) : State :=
  talk idle [.ok, .ok, .ok, .ok, w] (fourReads.map (fun x => .bytes x.2) ++ [r]) [.fail]

/-- Stopped at the first write; at the last write, the last read and the last response, one byte short and one too long. -/
theorem witness_DeviceInfoStopsAtFirstErr :
    ((talk idle [.ioFail] [] [.ok]).life = .ready ∧
      infoCommands = ([] : List (BusCommand × List Byte)).map Prod.fst ++
        .readProductType :: [.readSerial, .readFwVersion, .readAutoclean, .readStatus] ∧
      (Answers.skip 0 (talk idle [.ioFail] [] [.ok]).env.writes).next Config.freeWrite = .ioFail) ∧
    (infoCommands = fourReads.map Prod.fst ++ .readStatus :: [] ∧ fourReads.length = 4 ∧
      ∀ x ∈ fourReads, x.2.length = rlen x.1) ∧
    (∀ w ∈ [WriteOutcome.ok, .ioFail], ∀ r ∈ [ReadOutcome.ioFail, .bytes (List.replicate 5 0), .bytes (List.replicate 7 0)],
      (lastRead w r).life = .ready ∧
      (∀ j < 4, (Answers.skip j (lastRead w r).env.writes).next Config.freeWrite = .ok ∧
        some ((Answers.skip j (lastRead w r).env.reads).next Config.freeRead) = fourReads[j]?.map fun x => .bytes x.2) ∧
      (Answers.skip 4 (lastRead w r).env.writes).next Config.freeWrite = w ∧
      (Answers.skip 4 (lastRead w r).env.reads).next Config.freeRead = r) ∧
    (List.replicate 5 (0 : Byte)).length ≠ rlen .readStatus ∧ (List.replicate 7 (0 : Byte)).length ≠ rlen .readStatus := by
  decide +kernel

/-- The device of P4, for 604800 seconds. -/
def roundTrip : State := (talk idle [.ok, .ok] [.bytes [0x3A, 0x80, 0xA7, 0x00, 0x09, 0x09]] []).setMoves
  [.operation (encode (.writeAutoclean 604800)), .operation (encode .readAutoclean)]

theorem witness_AutocleanRoundTrip : roundTrip.life = .ready ∧
    roundTrip.moves = [.operation (encode (.writeAutoclean 604800)), .operation (encode .readAutoclean)] ∧
    roundTrip.env.nextWrite = .ok ∧ (Answers.skip 1 roundTrip.env.writes).next Config.freeWrite = .ok ∧
    roundTrip.env.nextRead = .bytes ((encodeFrame roundTrip.params .writeAutoclean 604800).drop 2) := by decide +kernel

theorem witness_StatusFlagBits : demoParams.stBitSpeed = 21 ∧ demoParams.stBitLaser = 5 ∧ demoParams.stBitFan = 4 := by decide

/-- A word of each class: both ends of the normal words. -/
theorem witness_FloatValueFormula :
    (let e := (0x80000000 : Word).toNat / 2 ^ 23 % 256; e = 0 ∧ (0x80000000 : Word).toNat % 2 ^ 23 = 0) ∧
    (let e := (0x007FFFFF : Word).toNat / 2 ^ 23 % 256; e = 0 ∧ (0x007FFFFF : Word).toNat % 2 ^ 23 ≠ 0) ∧
    (let e := (0x00800000 : Word).toNat / 2 ^ 23 % 256; 1 ≤ e ∧ e ≤ 254) ∧
    (let e := (0x7F7FFFFF : Word).toNat / 2 ^ 23 % 256; 1 ≤ e ∧ e ≤ 254) ∧
    (let e := (0x7F800000 : Word).toNat / 2 ^ 23 % 256; e = 255 ∧ (0x7F800000 : Word).toNat % 2 ^ 23 = 0) ∧
    (let e := (0x7F800001 : Word).toNat / 2 ^ 23 % 256; e = 255 ∧ (0x7F800001 : Word).toNat % 2 ^ 23 ≠ 0) := by decide +kernel

/-- One and a half units: between 1 and 2, kept at 2. A window of two words; both ends of `N`. -/
theorem witness_RoundingIsNearestEven : (0 < 2 ∧ Representable 1 ∧ 1 ≠ roundUnits 3 2 ∧
    |(3 : Int) - 2 * roundUnits 3 2| = |(3 : Int) - 2 * 1|) ∧ (1 : Nat) ≠ 0 ∧ (0 ≤ 2 ^ 24 ∧ 2 ^ 24 ≤ 2 ^ 24) ∧
    (1 < [(0x3F800000 : Word), 0x33800000].length ∧ [(0x3F800000 : Word), 0x33800000].length ≤ 2 ^ 24) :=
  ⟨⟨by decide, ⟨1, 0, by decide, by decide⟩, by decide +kernel, by decide +kernel⟩, by decide, by decide, by decide⟩

/-- Words worth 1, 2 and 3 units: partial sums 0, 1, 3, 6 and the mean 2. -/
theorem witness_DefaultMeanIsExact : 1 < [(1 : Word), 2, 3].length ∧ [(1 : Word), 2, 3].length ≤ 2 ^ 24 ∧
    (∀ w ∈ [(1 : Word), 2, 3], (f32Val w).isFinite = true) ∧
    (∀ k ≤ [(1 : Word), 2, 3].length, (([(1 : Word), 2, 3].take k).map fun w => (f32Val w).toInt).sum.natAbs < 2 ^ 24) ∧
    ([(1 : Word), 2, 3].map fun w => (f32Val w).toInt).sum = [(1 : Word), 2, 3].length * 2 ∧
    (∀ m < 2 ^ 24, Representable m ∧ m < overflowUnits) :=
  ⟨by decide, by decide, List.all_eq_true.mp (by decide +kernel), by decide +kernel, by decide +kernel, fun m h =>
    ⟨⟨m, 0, h, (Nat.mul_one m).symm⟩, Nat.lt_of_lt_of_le h (Nat.le_mul_of_pos_right _ (Nat.pow_pos (by decide)))⟩⟩

/-- The negative unit, twice and `2^24` times. -/
theorem witness_DefaultMeanOfConstant : f32Val 0x80000001 = .finite true 1 ∧ (1 : Nat) ≠ 0 ∧ (1 < 2 ∧ 2 ≤ 2 ^ 24) ∧
    (∀ k ≤ 2, Representable (k * 1)) ∧ 2 * 1 < overflowUnits :=
  ⟨by decide +kernel, by decide, by decide, fun k h => ⟨k, 0, Nat.lt_of_le_of_lt h (by decide), rfl⟩,
    Nat.lt_of_lt_of_le (by decide : 2 * 1 < 2 ^ 24) (Nat.le_mul_of_pos_right _ (Nat.pow_pos (by decide)))⟩

theorem witness_DefaultMeanStaysFinite : 1 < [(0x3F800000 : Word), 0x33800000].length ∧
    [(0x3F800000 : Word), 0x33800000].length ≤ 2 ^ 24 ∧
    (∀ w ∈ [(0x3F800000 : Word), 0x33800000], (f32Val w).isFinite = true) ∧
    (floatSum [0x3F800000, 0x33800000]).isFinite = true :=
  ⟨by decide, by decide, List.all_eq_true.mp (by decide +kernel), by decide +kernel⟩

theorem witness_DefaultMeanSpecials :
    (∃ w ∈ [(0x7FC00000 : Word), 0x3F800000], f32Val w = .nan) ∧
    ((∃ w ∈ [(0x7F800000 : Word), 0xFF800000], f32Val w = .infinity false) ∧
      ∃ w ∈ [(0x7F800000 : Word), 0xFF800000], f32Val w = .infinity true) ∧
    ((∃ w ∈ [(0xC0000000 : Word), 0xFF800000], f32Val w = .infinity true) ∧
      (∀ w ∈ [(0xC0000000 : Word), 0xFF800000], f32Val w ≠ .nan ∧ f32Val w ≠ .infinity (!true)) ∧
      (floatSum ([(0xC0000000 : Word), 0xFF800000].takeWhile fun w => (f32Val w).isFinite)).isFinite = true) ∧
    ((∀ w ∈ [(0x7F7FFFFF : Word), 0x7F7FFFFF, 0x7F7FFFFF], (f32Val w).isFinite = true) ∧
      (floatSum [(0x7F7FFFFF : Word), 0x7F7FFFFF, 0x7F7FFFFF]).isFinite = false) ∧
    (∀ w ∈ [(0x80000000 : Word), 0x80000000], w = 0x80000000) ∧ (1 < 2 ∧ 2 ≤ 2 ^ 24) := by
  refine ⟨⟨0x7FC00000, by simp, by decide +kernel⟩, ⟨⟨0x7F800000, by simp, by decide +kernel⟩,
    ⟨0xFF800000, by simp, by decide +kernel⟩⟩, ⟨⟨0xFF800000, by simp, by decide +kernel⟩, ?_, by decide +kernel⟩,
    ⟨List.all_eq_true.mp (by decide +kernel), by decide +kernel⟩, by simp, by decide⟩
  rintro w hw
  rcases List.mem_cons.mp hw with rfl | hw
  · decide +kernel
  · rw [List.mem_singleton.mp hw]
    decide +kernel

end Sys2Proof.Tests
end

section
/-! The statements of the state tuple (spec/10_state.md): the reset values R37, the counters R25 and R27, and the invariant
R39. A property of the state kept by each named update is kept by every instruction (`UpdatesKeep.exec_keeps`); the
invariant and the lower bound on `ERR_CUM` are two such properties. -/

namespace Sys2Proof.Machine

/-! ### The state a computation leaves -/

section
variable {α β : Type} {P : State → Prop}

/-- `P` holds of the state left behind, whether the body went on or was ended by a `raise` (R262). -/
def Ran.Leaves (P : State → Prop) : Ran α → Prop
  | .done _ s => P s
  | .raised _ s => P s

theorem Ran.Leaves.andThen {r : Ran α} {k : α → State → Ran β} (hr : r.Leaves P)
    (hk : ∀ a u, P u → (k a u).Leaves P) : (r.andThen k).Leaves P := by
  cases r with
  | done a u => exact hk a u hr
  | raised e u => exact hr

theorem guarded_leaves {op : Operation} {s : State} {body : State → Ran α} (hs : P s) (hb : (body s).Leaves P) :
    (guarded op s body).Leaves P := by
  rcases guarded_cases op s body with ⟨e, _, h⟩ | ⟨_, h⟩
  · rw [h]
    exact hs
  · rw [h]
    exact hb

end

/-! ### The prologue, by instruction -/

/-- What the prologue makes of an instruction (R210): a refusal that writes no more than its result, the `INIT` that makes
the session, or another operation in a session that is up. -/
theorem exec_prologue_cases (i : Instr) (s : State) :
    (∃ e, exec i s = .next (s.deliver (.err e))) ∨ (∃ n, i = .init n ∧ s.life = .uninit) ∨
      ((∀ n, i ≠ .init n) ∧ s.life = .ready) := by
  cases hp : prologue i.operation s with
  | some e => exact .inl ⟨e, exec_prologue hp⟩
  | none =>
    by_cases hi : ∃ n, i = .init n
    · obtain ⟨n, rfl⟩ := hi
      exact .inr (.inl ⟨n, rfl, (prologue_init_eq_none_iff s).mp hp⟩)
    · have hop : i.operation ≠ .init := by cases i <;> simp [Instr.operation] at hi ⊢
      exact .inr (.inr ⟨fun n h => hi ⟨n, h⟩, (prologue_eq_none_iff hop s).mp hp⟩)

/-! ### Properties that the updates keep -/

/-- The counters after a reading attempt in which `k` fields were invalid (R26, R27, R180). -/
def State.attempted (s : State) (k : Nat) : State :=
  { s with errLast := counted 0 k, errCum := counted s.errCum k }

theorem State.attempted_zero (s : State) : s.attempted 0 = s.startAttempt := by
  simp [State.attempted, State.startAttempt]

/-- `P` survives every update that an operation makes in a session that is up, those of a successful write-only command
excepted (`writtenState`). -/
structure UpdatesKeep (P : State → Prop) : Prop where
  deliver : ∀ s r, P s → P (s.deliver r)
  setEnv : ∀ s e, P s → P (s.setEnv e)
  fatal : ∀ s, P s → P (s.setLife .fatal)
  attempted : ∀ s k, P s → P (s.attempted k)
  setValid : ∀ s v, P s → P (s.setValid v)
  push : ∀ s f, f.v = allSections → P s → P (aggPush f s).2
  setWindow : ∀ s n, ¬ WindowIllegal s.params n → P s → P (s.setWindow n)

namespace UpdatesKeep
variable {P : State → Prop} (h : UpdatesKeep P) {s t : State}
include h

theorem startAttempt (hs : P s) : P s.startAttempt :=
  s.attempted_zero ▸ h.attempted s 0 hs

theorem afterIoFail (q : ResetOutcome) (hs : P s) : P (s.setLife (lifeAfterIoFail q s.life)) := by
  cases q with
  | ok => exact hs
  | fail => exact h.fatal s hs

theorem of_finish {r : Ran Result} (hr : r.Leaves P) (he : finish r = .next t) : P t := by
  cases r with
  | done v u => exact Host.Outcome.next.inj he ▸ h.deliver u v hr
  | raised e u => exact Host.Outcome.next.inj he ▸ h.deliver u (.err e) hr

theorem readField_leaves (cmd : BusCommand) (hs : P s) : (readField cmd s).Leaves P := by
  rcases readField_cases cmd s with ⟨raw, _, _, _, hr⟩ | ⟨raw, _, _, _, hr⟩ | ⟨_, hr⟩ | ⟨_, _, hr⟩ <;> rw [hr]
  · exact h.setEnv _ _ (h.attempted s _ hs)
  · exact h.setEnv _ _ (h.startAttempt hs)
  · exact h.afterIoFail _ (h.setEnv _ _ (h.startAttempt hs))
  · exact h.afterIoFail _ (h.setEnv _ _ (h.startAttempt hs))

/-- A single-field read as an operation of its own, as `DEVICE_INFO` makes five of them (R228). -/
theorem guardedRead_leaves {α : Type} (op : Operation) (cmd : BusCommand) (f : Option (List Byte) → α) (hs : P s) :
    (guarded op s fun s => (readField cmd s).andThen fun r s => .done (f r) s).Leaves P :=
  guarded_leaves hs ((h.readField_leaves cmd hs).andThen fun _ _ hu => hu)

theorem deliverFrame_leaves {r : Option Frame} (hr : ∀ f ∈ r, f.v = allSections) (hs : P s) :
    (deliverFrame r s).Leaves P := by
  rcases deliverFrame_cases r s with ⟨_, hd⟩ | ⟨f, m, hf, _, hd⟩ | ⟨f, hf, _, hd⟩ <;> rw [hd]
  · exact hs
  · exact h.push s f (hr f hf) hs
  · exact h.push s f (hr f hf) hs

/-- Only an accepted frame is pushed (R181, R201), so the frame that enters the window has all three flags. -/
theorem measure_leaves (hs : P s) : (measure s).Leaves P := by
  rcases measure_cases s with ⟨raw, _, _, _, hm⟩ | ⟨raw, _, _, _, hm⟩ | ⟨_, hm⟩ | ⟨_, _, hm⟩ <;> rw [hm]
  · refine h.deliverFrame_leaves ?_ (h.setEnv _ _ (h.setValid _ _ (h.attempted s _ hs)))
    intro f hf
    obtain ⟨hacc, hfr⟩ := Option.ite_none_right_eq_some.mp hf
    exact Option.some.inj hfr ▸ accepted_eq_all hacc
  · exact h.setEnv _ _ (h.startAttempt hs)
  · exact h.afterIoFail _ (h.setEnv _ _ (h.startAttempt hs))
  · exact h.afterIoFail _ (h.setEnv _ _ (h.startAttempt hs))

theorem doWriteCmd_andThen_leaves (cmd : BusCommand) (arg : Word) (hs : P s)
    (hw : ∀ u : State, u.ss = s.ss → P u → P (writtenState cmd u)) :
    ((doWriteCmd cmd arg s).andThen fun _ u => .done Result.done (writtenState cmd u)).Leaves P := by
  rcases doWriteCmd_cases cmd arg s with ⟨_, hd⟩ | ⟨_, hd⟩ <;> rw [hd]
  · exact hw _ rfl (h.setEnv _ _ hs)
  · exact h.afterIoFail _ (h.setEnv _ _ hs)

/-- A property that the updates keep is kept by every instruction but the `INIT` that makes the session, provided that the
instruction's own mode change, where it has one, keeps it too. -/
theorem exec_keeps {i : Instr} (hs : P s) (hi : ∀ n, i = .init n → s.life ≠ .uninit)
    (hw : ∀ cmd u, busCommandOf i = some cmd → legalIn cmd u.ss = true → P u → P (writtenState cmd u))
    (he : exec i s = .next t) : P t := by
  rcases exec_prologue_cases i s with ⟨e, hp⟩ | ⟨n, rfl, hu⟩ | ⟨hni, hready⟩
  · rw [hp] at he
    exact Host.Outcome.next.inj he ▸ h.deliver s _ hs
  · exact absurd hu (hi n rfl)
  have refused : ∀ cmd, busCommandOf i = some cmd → legalIn cmd s.ss = false → P t := by
    intro cmd hc hl
    rw [exec_illegal hc hl hready] at he
    exact Host.Outcome.next.inj he ▸ h.deliver s _ hs
  rcases instr_cases i with ⟨n, rfl⟩ | ⟨n, rfl⟩ | rfl | rfl | ⟨cmd, hc, hf⟩ | ⟨cmd, hc, hr⟩
  · exact absurd rfl (hni n)
  · rw [exec_setWindow n hready] at he
    split at he
    · exact Host.Outcome.next.inj he ▸ h.deliver s _ hs
    · next hn => exact Host.Outcome.next.inj he ▸ h.deliver _ _ (h.setWindow s n hn hs)
  · rw [exec_deviceInfo hready] at he
    refine h.of_finish ?_ he
    refine (h.guardedRead_leaves .readProductType .readProductType asBytes hs).andThen fun _ u hu => ?_
    refine (h.guardedRead_leaves .readSerial .readSerial asBytes hu).andThen fun _ u hu => ?_
    refine (h.guardedRead_leaves .readFwVersion .readFwVersion asWord16 hu).andThen fun _ u hu => ?_
    refine (h.guardedRead_leaves .readAutoclean .readAutoclean asWord32LEH hu).andThen fun _ u hu => ?_
    exact (h.guardedRead_leaves .readStatus .readStatus asWord32BE hu).andThen fun _ u hu => hu
  · by_cases hl : legalIn .readMeas s.ss = true
    · rw [exec_readMeas (by simpa [legalIn] using hl) hready] at he
      exact h.of_finish (h.measure_leaves hs) he
    · exact refused .readMeas rfl (by simpa using hl)
  · rw [exec_readField hc hf hready] at he
    refine h.of_finish ((h.readField_leaves cmd hs).andThen ?_) he
    exact fun _ _ hu => hu
  · by_cases hl : legalIn cmd s.ss = true
    · rw [exec_write hc hr hl hready] at he
      refine h.of_finish (h.doWriteCmd_andThen_leaves cmd i.argument hs fun u hu => hw cmd u hc ?_) he
      rwa [hu]
    · exact refused cmd hc (by simpa using hl)

end UpdatesKeep

/-! ### The counters -/

theorem le_counted (c : BitVec 32) (k : Nat) : c.toNat ≤ (counted c k).toNat := by
  have := c.isLt
  rw [counted_toNat]
  omega

/-- A count from 0 stays below the same count from any other value. -/
theorem counted_from_zero_le (c : BitVec 32) (k : Nat) :
    (counted 0 k).toNat ≤ (counted c k).toNat := by
  simp only [counted_toNat, BitVec.ofNat_eq_ofNat, BitVec.toNat_ofNat]
  omega

/-- The window is all that a push writes (R198). -/
theorem aggPush_errCum (f : Frame) (s : State) : (aggPush f s).2.errCum = s.errCum := by
  rcases aggPush_cases f s with ⟨_, h⟩ | ⟨_, _, h⟩ | ⟨_, _, h⟩ <;> rw [h] <;> rfl

theorem updatesKeep_le_errCum (c : Nat) : UpdatesKeep fun s => c ≤ s.errCum.toNat where
  deliver _ _ h := h
  setEnv _ _ h := h
  fatal _ h := h
  attempted s k h := h.trans (le_counted s.errCum k)
  setValid _ _ h := h
  push s f _ h := (aggPush_errCum f s).symm ▸ h
  setWindow _ _ _ h := h

/-- Of the write-only commands only `RESET` writes `ERR_CUM` (R226). -/
theorem writtenState_errCum {cmd : BusCommand} (h : cmd ≠ .reset) (s : State) :
    (writtenState cmd s).errCum = s.errCum := by
  cases cmd with
  | reset => exact absurd rfl h
  | startMeas | stopMeas | sleep | wakeup | startFanClean | writeAutoclean | clearStatus | readDataReady | readMeas
  | readAutoclean | readProductType | readSerial | readFwVersion | readStatus => rfl

theorem busCommandOf_eq_reset_iff (i : Instr) : busCommandOf i = some .reset ↔ i = .reset := by
  cases i <;> simp [busCommandOf]

/-- Settles O17: `saturatingSucc` is the conditional increment of R27, for both counters. -/
theorem countErrorSaturates : Obligations.CountErrorSaturates :=
  fun _ => rfl

/-- Settles O45: a lower bound on `ERR_CUM` is kept by every update but that of `RESET` and the clearing by `INIT`. -/
theorem cumulativeCounterMonotone : Obligations.CumulativeCounterMonotone := by
  intro i s t he hreset hinit
  refine (updatesKeep_le_errCum s.errCum.toNat).exec_keeps le_rfl hinit ?_ he
  intro cmd u hc _ hu
  have hcmd : cmd ≠ .reset := by
    rintro rfl
    exact hreset ((busCommandOf_eq_reset_iff i).mp hc)
  rwa [writtenState_errCum hcmd]

/-! ### The invariant -/

/-- The invariant speaks of the parameters and the tuple only (R39). -/
theorem State.Inv.congr {s t : State} (h : s.Inv) (hp : t.params = s.params) (ht : t.tuple = s.tuple) : t.Inv := by
  obtain ⟨params, life, ss, fanActive, valid, errCum, errLast, winN, wbuf, env, moves, results⟩ := t
  obtain rfl : params = s.params := hp
  obtain ⟨rfl, rfl, rfl, rfl, rfl, rfl, rfl, rfl⟩ := Tuple.mk.inj ht
  exact { h with }

/-- A hardware reset meets the invariant whatever the state before it (R37, R39, R280). -/
theorem State.hardwareReset_inv (s : State) : s.hardwareReset.Inv where
  winN_pos := le_rfl
  winN_le_nmax := nmax_pos s.params
  winLen_le := Nat.zero_le 1
  passThrough_empty _ := rfl
  wbuf_accepted := List.forall_mem_nil _
  fan_iff_measuring := by simp
  errLast_le_errCum := le_rfl
  uninit_at_reset _ := rfl

/-- Settles O1: every element as R37 lists it. -/
theorem resetStateValues : Obligations.ResetStateValues :=
  ⟨rfl, rfl, rfl, rfl, rfl, rfl, rfl, rfl, rfl, rfl⟩

/-- Settles O2: a hardware reset of the reset state is the reset state. -/
theorem resetStateMeetsInvariant : Obligations.ResetStateMeetsInvariant :=
  State.hardwareReset_inv State.reset

/-- The invariant once a session has been made: the form that an operation's single writes keep, since in `Uninit` none of
them may happen (R39, R210). -/
structure State.LiveInv (s : State) : Prop where
  inv : s.Inv
  life_ne : s.life ≠ .uninit

theorem State.LiveInv.uninit_at_reset {s t : State} (h : s.LiveInv) (ht : t.life = s.life) :
    t.life = .uninit → t.tuple = resetTuple :=
  fun hu => absurd (ht ▸ hu) h.life_ne

/-- A pushed frame keeps the window within `WIN_N`, and a window of size 1 empty (R191 to R193, R203). -/
theorem State.LiveInv.push {s : State} (h : s.LiveInv) {f : Frame} (hf : f.v = allSections) :
    (aggPush f s).2.LiveInv := by
  have written : s.winN ≠ 1 → (s.setWbuf (pushWindow s.winN f s.wbuf)).LiveInv := fun hn =>
    { inv := { h.inv with
        winLen_le := pushWindow_length_le f h.inv.winLen_le (Nat.one_le_iff_ne_zero.mp h.inv.winN_pos)
        passThrough_empty := fun h1 => absurd h1 hn
        wbuf_accepted := fun fr hfr => (mem_pushWindow hfr).elim (h.inv.wbuf_accepted fr) fun heq => heq ▸ hf
        uninit_at_reset := h.uninit_at_reset rfl }
      life_ne := h.life_ne }
  rcases aggPush_cases f s with ⟨_, hp⟩ | ⟨hn, _, hp⟩ | ⟨hn, _, hp⟩ <;> rw [hp]
  · exact h
  · exact written hn
  · exact written hn

/-- An emptied window of a legal size (R199). -/
theorem State.LiveInv.setWindow {s : State} (h : s.LiveInv) {n : Nat} (hn : ¬ WindowIllegal s.params n) :
    (s.setWindow n).LiveInv := by
  obtain ⟨hpos, hle⟩ := (not_windowIllegal_iff s.params n).mp hn
  exact
    { inv := { h.inv with
        winN_pos := hpos
        winN_le_nmax := hle
        winLen_le := Nat.zero_le n
        passThrough_empty := fun _ => rfl
        wbuf_accepted := List.forall_mem_nil _
        uninit_at_reset := h.uninit_at_reset rfl }
      life_ne := h.life_ne }

theorem updatesKeep_liveInv : UpdatesKeep State.LiveInv where
  deliver _ _ h := ⟨h.inv.congr rfl rfl, h.life_ne⟩
  setEnv _ _ h := ⟨h.inv.congr rfl rfl, h.life_ne⟩
  fatal _ h := ⟨{ h.inv with uninit_at_reset := nofun }, nofun⟩
  attempted s k h :=
    ⟨{ h.inv with
        errLast_le_errCum := counted_from_zero_le s.errCum k
        uninit_at_reset := h.uninit_at_reset rfl }, h.life_ne⟩
  setValid _ _ h := ⟨{ h.inv with uninit_at_reset := h.uninit_at_reset rfl }, h.life_ne⟩
  push _ _ hf h := h.push hf
  setWindow _ _ hn h := h.setWindow hn

/-- A mode and its fan flag are written together (R23, R230). -/
theorem State.LiveInv.setMode {s : State} (h : s.LiveInv) {ss : Session} {fan : Bool}
    (hfan : fan = true ↔ ss = .measuring) : (s.setMode ss fan).LiveInv :=
  ⟨{ h.inv with fan_iff_measuring := hfan, uninit_at_reset := h.uninit_at_reset rfl }, h.life_ne⟩

theorem State.LiveInv.clearCounters {s : State} (h : s.LiveInv) : s.clearCounters.LiveInv :=
  ⟨{ h.inv with errLast_le_errCum := le_rfl, uninit_at_reset := h.uninit_at_reset rfl }, h.life_ne⟩

/-- `WAKEUP` writes no fan flag (R217), and needs to write none: in `Sleeping` the fan is off. -/
theorem State.LiveInv.wake {s : State} (h : s.LiveInv) (hss : s.ss = .sleeping) : (s.setSession .idle).LiveInv := by
  have hfan : s.fanActive = true ↔ Session.idle = .measuring := by
    rw [h.inv.fan_iff_measuring, hss]
    decide
  exact ⟨{ h.inv with fan_iff_measuring := hfan, uninit_at_reset := h.uninit_at_reset rfl }, h.life_ne⟩

/-- A write-only command in a session state that allows it keeps the invariant (R229, R230). -/
theorem State.LiveInv.writtenState {cmd : BusCommand} {s : State} (hl : legalIn cmd s.ss = true) (h : s.LiveInv) :
    (writtenState cmd s).LiveInv := by
  cases cmd with
  | startMeas => exact updatesKeep_liveInv.setValid _ _ (h.setMode (by decide))
  | stopMeas => exact h.setMode (by decide)
  | sleep => exact h.setMode (by decide)
  | wakeup => exact h.wake (by simpa [legalIn] using hl)
  | reset => exact (h.setMode (by decide)).clearCounters
  | startFanClean | writeAutoclean | clearStatus | readDataReady | readMeas | readAutoclean | readProductType | readSerial
  | readFwVersion | readStatus => exact h

/-- The state a successful `INIT n` leaves meets the invariant when `n` is a legal size, whatever the state before (R211). -/
theorem State.initialised_inv {s : State} {n : Nat} (hn : ¬ WindowIllegal s.params n) : (s.initialised n).Inv := by
  obtain ⟨hpos, hle⟩ := (not_windowIllegal_iff s.params n).mp hn
  exact
    { winN_pos := hpos
      winN_le_nmax := hle
      winLen_le := Nat.zero_le n
      passThrough_empty := fun _ => rfl
      wbuf_accepted := List.forall_mem_nil _
      fan_iff_measuring := by simp [State.initialised]
      errLast_le_errCum := le_rfl
      uninit_at_reset := nofun }

theorem exec_init_keeps_inv {n : Nat} {s t : State} (h : s.Inv) (hu : s.life = .uninit)
    (he : exec (.init n) s = .next t) : t.Inv := by
  rw [exec_init n hu] at he
  split at he
  · exact Host.Outcome.next.inj he ▸ h.congr rfl rfl
  · next hn =>
    split at he
    · exact Host.Outcome.next.inj he ▸ h.congr rfl rfl
    · exact Host.Outcome.next.inj he ▸ (State.initialised_inv hn).congr rfl rfl

theorem exec_keeps_inv {i : Instr} {s t : State} (h : s.Inv) (he : exec i s = .next t) : t.Inv := by
  rcases exec_prologue_cases i s with ⟨e, hp⟩ | ⟨n, rfl, hu⟩ | ⟨hni, hready⟩
  · rw [hp] at he
    exact Host.Outcome.next.inj he ▸ h.congr rfl rfl
  · exact exec_init_keeps_inv h hu he
  · have hlive : s.LiveInv := ⟨h, by simp [hready]⟩
    exact (updatesKeep_liveInv.exec_keeps hlive (fun n hn => absurd hn (hni n))
      (fun _ _ _ hl hu => hu.writtenState hl) he).inv

/-- An unknown selector writes nothing but its result (R91, R210). -/
theorem rejectUnknown_next (opsel : BitVec 5) (s : State) :
    ∃ e, rejectUnknown opsel s = .next (s.deliver (.err e)) := by
  unfold rejectUnknown
  cases s.life with
  | fatal => exact ⟨.busResetFatal .sticky, rfl⟩
  | uninit => exact ⟨.unknownOp opsel, rfl⟩
  | ready => exact ⟨.unknownOp opsel, rfl⟩

theorem runRequest_keeps_inv {r : Request} {s t : State} (h : s.Inv) (he : runRequest r s = .next t) : t.Inv := by
  unfold runRequest at he
  split at he
  · exact exec_keeps_inv h he
  · next opsel _ =>
    obtain ⟨e, hr⟩ := rejectUnknown_next opsel s
    rw [hr] at he
    exact Host.Outcome.next.inj he ▸ h.congr rfl rfl

/-- An interrupted operation leaves the block hardware-reset, however far it had come (R287, R296). -/
theorem interrupt_inv {calls : Nat} {s t : State} {o : Host.Outcome State Fault Refusal}
    (he : interrupt calls s o = .next t) : t.Inv := by
  cases o with
  | next u => exact Host.Outcome.next.inj he ▸ State.hardwareReset_inv _
  | fault f => exact nomatch f
  | refused r => exact nomatch he

theorem runMove_keeps_inv {m : HostMove} {s t : State} (h : s.Inv) (he : runMove m s = .next t) : t.Inv := by
  cases m with
  | operation r => exact runRequest_keeps_inv h he
  | hardwareReset => exact Host.Outcome.next.inj he ▸ State.hardwareReset_inv s
  | interrupted r calls => exact interrupt_inv he

/-- Settles O3, by the move taken: an operation keeps the invariant update by update, a hardware reset establishes it. -/
theorem stepKeepsInvariant : Obligations.StepKeepsInvariant := by
  intro s t h he
  unfold step at he
  split at he
  · exact Host.Outcome.next.inj he ▸ h
  · next ms _ => exact runMove_keeps_inv (s := s.setMoves ms) (h.congr rfl rfl) he

end Sys2Proof.Machine
end

section
/-! The statements of the bus transactions (spec/20_memory.md): what a failed write or read comes to (R56, R57), and which
Transport calls an operation makes (R64, R66, R228). Every reading command is one exchange, one length check and a rest that
makes no call (`exec_reading`), so each fact about the exchange is proved once, for `checkedRead`. -/

namespace Sys2Proof.Machine

/-! ### The state a computation leaves -/

section
variable {α : Type} {P Q : State → Prop}

theorem Ran.Leaves.imp {r : Ran α} (hr : r.Leaves P) (h : ∀ u, P u → Q u) : r.Leaves Q := by
  cases r with
  | done a u => exact h u hr
  | raised e u => exact h u hr

/-- A property that does not look at the results passes from a body to the operation that returns its result (R9). -/
theorem Ran.Leaves.of_finish {r : Ran Result} {t : State} (hr : r.Leaves P) (hP : ∀ u v, P u → P (u.deliver v))
    (he : finish r = .next t) : P t := by
  cases r with
  | done v u => exact Host.Outcome.next.inj he ▸ hP u v hr
  | raised e u => exact Host.Outcome.next.inj he ▸ hP u (.err e) hr

end

/-! ### Updates that make no Transport call -/

theorem decodeField_env (raw : List Byte) (off k : Nat) (s : State) : (decodeField raw off k s).2.env = s.env := by
  rw [decodeField_eq]

theorem countFields_env (raw : List Byte) (s : State) : (countFields raw s).env = s.env := by
  rw [countFields_eq]

theorem aggPush_env (f : Frame) (s : State) : (aggPush f s).2.env = s.env := by
  rcases aggPush_cases f s with ⟨_, h⟩ | ⟨_, _, h⟩ | ⟨_, _, h⟩ <;> rw [h] <;> rfl

theorem deliverFrame_leaves_env (r : Option Frame) (s : State) : (deliverFrame r s).Leaves (·.env = s.env) := by
  rcases deliverFrame_cases r s with ⟨_, h⟩ | ⟨f, _, _, _, h⟩ | ⟨f, _, _, h⟩ <;> rw [h]
  · exact rfl
  · exact aggPush_env f s
  · exact aggPush_env f s

theorem writtenState_env (cmd : BusCommand) (s : State) : (writtenState cmd s).env = s.env := by
  cases cmd <;> rfl

/-! ### Reading commands -/

/-- A reading command up to its decode (R141, R232): the exchange, the length check, then `k` on the response. -/
def checkedRead {α : Type} (cmd : BusCommand) (k : List Byte → State → Ran α) (s : State) : Ran α :=
  (doReadCmd cmd s).andThen fun raw u => (checkLength raw (packetCount cmd) u).andThen fun _ u => k raw u

section
variable {α : Type} {s : State} (cmd : BusCommand) (k : List Byte → State → Ran α)

theorem checkedRead_ok {raw : List Byte} (hw : s.env.nextWrite = .ok) (hr : s.env.nextRead = .bytes raw)
    (hlen : raw.length = rlen cmd) : checkedRead cmd k s = k raw (s.startAttempt.setEnv
      (s.env.exchanged s.params (encodeFrame s.params cmd 0) (perCommand s.params.settle cmd) (rlen cmd) raw)) := by
  rw [checkedRead, doReadCmd_ok hw hr, Ran.andThen_done, checkLength_ok hlen, Ran.andThen_done]

theorem checkedRead_badLength {raw : List Byte} (hw : s.env.nextWrite = .ok) (hr : s.env.nextRead = .bytes raw)
    (hlen : raw.length ≠ rlen cmd) :
    checkedRead cmd k s = .raised (.lengthMismatch (rlen cmd) raw.length) (s.startAttempt.setEnv
      (s.env.exchanged s.params (encodeFrame s.params cmd 0) (perCommand s.params.settle cmd) (rlen cmd) raw)) := by
  rw [checkedRead, doReadCmd_ok hw hr, Ran.andThen_done, checkLength_bad hlen, Ran.andThen_raised, rlen]

theorem checkedRead_writeFail (hw : s.env.nextWrite = .ioFail) :
    checkedRead cmd k s = .raised (ioError s.env.nextReset .write)
      ((s.startAttempt.setEnv (s.env.writeFailed s.params (encodeFrame s.params cmd 0))).setLife
        (lifeAfterIoFail s.env.nextReset s.life)) := by
  rw [checkedRead, doReadCmd_writeFail hw, Ran.andThen_raised]

theorem checkedRead_readFail (hw : s.env.nextWrite = .ok) (hr : s.env.nextRead = .ioFail) :
    checkedRead cmd k s = .raised (ioError s.env.nextReset .read)
      ((s.startAttempt.setEnv (s.env.readFailed s.params (encodeFrame s.params cmd 0) (perCommand s.params.settle cmd)
        (rlen cmd))).setLife (lifeAfterIoFail s.env.nextReset s.life)) := by
  rw [checkedRead, doReadCmd_readFail hw hr, Ran.andThen_raised]

end

/-- A single-field read with what follows it (R154). -/
theorem readField_andThen_eq {α : Type} (cmd : BusCommand) (s : State) (k : Option (List Byte) → State → Ran α) :
    (readField cmd s).andThen k = checkedRead cmd (fun raw u =>
      k (decodeField raw 0 (packetCount cmd) u).1 (decodeField raw 0 (packetCount cmd) u).2) s := by
  simp only [readField, decodeSingle, checkedRead, Ran.andThen_assoc, Ran.andThen_done]

/-- A measurement attempt (R184, R215). -/
theorem measure_eq (s : State) : measure s = checkedRead .readMeas (fun raw u =>
    deliverFrame (if (measFrame raw).v.accepted then some (measFrame raw) else none)
      ((countFields raw u).setValid (measFrame raw).v)) s := by
  simp only [measure, assembleMeasurement, checkedRead, packetCount, Ran.andThen_assoc, Ran.andThen_done]

/-- Which body a bus command has: the measurement, a single-field read, or a write alone (R86, R154). -/
theorem busCommand_shape {i : Instr} {cmd : BusCommand} (hc : busCommandOf i = some cmd) :
    (i = .readMeas ∧ cmd = .readMeas) ∨ singleFieldRead cmd = true ∨ rlen cmd = 0 := by
  cases i <;> cases hc <;> simp [singleFieldRead, rlen, packetCount]

/-- A reading command ignores `ARG` (R91). -/
theorem argument_eq_zero_of_reading {i : Instr} {cmd : BusCommand} (hc : busCommandOf i = some cmd)
    (hr : rlen cmd ≠ 0) : i.argument = 0 := by
  cases i <;> cases hc <;> simp [Instr.argument, rlen, packetCount] at hr ⊢

/-- A legal reading command is a checked read, and what follows the length check makes no Transport call. -/
theorem exec_reading {i : Instr} {cmd : BusCommand} {s : State} (hc : busCommandOf i = some cmd) (hr : rlen cmd ≠ 0)
    (hl : legalIn cmd s.ss = true) (hs : s.life = .ready) :
    ∃ k, exec i s = finish (checkedRead cmd k s) ∧ ∀ raw u, (k raw u).Leaves (·.env = u.env) := by
  rcases busCommand_shape hc with ⟨rfl, rfl⟩ | hf | h0
  · refine ⟨_, by rw [exec_readMeas (by simpa [legalIn] using hl) hs, measure_eq], fun raw u => ?_⟩
    exact (deliverFrame_leaves_env _ _).imp fun v hv => hv.trans (countFields_env raw u)
  · refine ⟨_, by rw [exec_readField hc hf hs, readField_andThen_eq], fun raw u => ?_⟩
    exact decodeField_env raw 0 (packetCount cmd) u
  · exact absurd h0 hr

/-! ### Failed writes and reads -/

/-- Settles O23: a write-only command stops at its write, a reading command at that of its exchange. -/
theorem writeFailureResult : Obligations.WriteFailureResult := by
  intro i cmd s hc hl hs hw
  by_cases hr : rlen cmd = 0
  · rw [exec_write hc hr hl hs, doWriteCmd_ioFail hw, Ran.andThen_raised, finish_raised, errLastBegun, if_pos hr, hs]
    rfl
  · obtain ⟨k, hk, -⟩ := exec_reading hc hr hl hs
    rw [hk, checkedRead_writeFail cmd k hw, finish_raised, errLastBegun, if_neg hr, argument_eq_zero_of_reading hc hr, hs]
    rfl

/-- Settles O24: the exchange ends at its read, before the length check. -/
theorem readFailureResult : Obligations.ReadFailureResult := by
  intro i cmd s hc hr hl hs hw hrd
  obtain ⟨k, hk, -⟩ := exec_reading hc hr hl hs
  rw [hk, checkedRead_readFail cmd k hw hrd, finish_raised, hs]
  rfl

/-! ### The calls an operation makes -/

/-- From `s` to `t` new Transport calls have been recorded, and together, in order, they are as `F` says (R286). -/
def State.CallsMade (s : State) (F : List Call → Prop) (t : State) : Prop :=
  ∃ c, t.env.calls = s.env.calls ++ c ∧ F c

theorem State.CallsMade.of_env_eq {s t : State} {F : List Call → Prop} (hF : F []) (h : t.env = s.env) : s.CallsMade F t :=
  ⟨[], by rw [h, List.append_nil], hF⟩

theorem State.CallsMade.imp {s t : State} {F G : List Call → Prop} (h : s.CallsMade F t) (hFG : ∀ c, F c → G c) :
    s.CallsMade G t :=
  let ⟨c, hc, hF⟩ := h
  ⟨c, hc, hFG c hF⟩

/-- Returning a result is no Transport call. -/
theorem State.CallsMade.of_finish {s t : State} {F : List Call → Prop} {r : Ran Result} (hr : r.Leaves (s.CallsMade F))
    (he : finish r = .next t) : s.CallsMade F t :=
  hr.of_finish (fun _ _ h => h) he

theorem transactionFits_nil (p : Params) (i : Instr) : transactionFits p i [] := .inl rfl

/-- A read followed by further reads makes its own calls, and, if its response has the right length, theirs after it. What
follows starts in a session that is up, as a read that goes on does not write `LIFE` (R228). -/
theorem checkedRead_callsMade {α : Type} {cmd : BusCommand} {cmds : List BusCommand} {s : State}
    {k : List Byte → State → Ran α} (hs : s.life = .ready)
    (hk : ∀ raw u, u.life = .ready → (k raw u).Leaves (u.CallsMade (readsFit u.params cmds))) :
    (checkedRead cmd k s).Leaves (s.CallsMade (readsFit s.params (cmd :: cmds))) := by
  cases hw : s.env.nextWrite with
  | ioFail =>
    rw [checkedRead_writeFail cmd k hw]
    exact ⟨_, rfl, .inl ⟨_, rfl⟩⟩
  | ok =>
    cases hr : s.env.nextRead with
    | ioFail =>
      rw [checkedRead_readFail cmd k hw hr]
      exact ⟨_, rfl, .inr (.inl ⟨_, rfl⟩)⟩
    | bytes raw =>
      by_cases hlen : raw.length = rlen cmd
      · rw [checkedRead_ok cmd k hw hr hlen]
        refine (hk raw (s.startAttempt.setEnv _) hs).imp fun t ⟨c, hc, hfit⟩ => ?_
        exact ⟨exchangeCalls s.params cmd raw ++ c, hc.trans (List.append_assoc _ _ _),
          .inr (.inr (.inr ⟨raw, c, hlen, rfl, hfit⟩))⟩
      · rw [checkedRead_badLength cmd k hw hr hlen]
        exact ⟨_, rfl, .inr (.inr (.inl ⟨raw, hlen, rfl⟩))⟩

/-- A read as `DEVICE_INFO` makes it, an operation with its own prologue, and the reads that follow it (R228). -/
theorem guardedRead_callsMade {α β : Type} {op : Operation} (ho : op ≠ .init) {cmd : BusCommand}
    {cmds : List BusCommand} {s : State} {f : Option (List Byte) → α} {k : α → State → Ran β} (hs : s.life = .ready)
    (hk : ∀ a u, u.life = .ready → (k a u).Leaves (u.CallsMade (readsFit u.params cmds))) :
    ((guarded op s fun s => (readField cmd s).andThen fun r s => .done (f r) s).andThen k).Leaves
      (s.CallsMade (readsFit s.params (cmd :: cmds))) := by
  rw [guardedRead_andThen ho hs, readField_andThen_eq]
  refine checkedRead_callsMade hs fun raw u hu => ?_
  rw [decodeField_eq]
  exact hk _ _ hu

/-- The reads of `DEVICE_INFO` in a session that is up (R228). -/
theorem exec_deviceInfo_callsMade {s t : State} (hs : s.life = .ready) (he : exec .deviceInfo s = .next t) :
    s.CallsMade (readsFit s.params infoCommands) t := by
  rw [exec_deviceInfo hs] at he
  refine State.CallsMade.of_finish ?_ he
  refine guardedRead_callsMade (op := .readProductType) (by decide) hs fun _ u hu => ?_
  refine guardedRead_callsMade (op := .readSerial) (by decide) hu fun _ u hu => ?_
  refine guardedRead_callsMade (op := .readFwVersion) (by decide) hu fun _ u hu => ?_
  refine guardedRead_callsMade (op := .readAutoclean) (by decide) hu fun _ u hu => ?_
  exact guardedRead_callsMade (op := .readStatus) (by decide) hu fun _ u _ => .of_env_eq rfl rfl

/-- Outside a session that is up `DEVICE_INFO` makes no call (R210). -/
theorem exec_deviceInfo_env_of_not_ready {s t : State} (hs : s.life ≠ .ready) (he : exec .deviceInfo s = .next t) :
    t.env = s.env := by
  rcases exec_prologue_cases .deviceInfo s with ⟨e, hp⟩ | ⟨n, hn, _⟩ | ⟨_, hready⟩
  · rw [hp] at he
    exact Host.Outcome.next.inj he ▸ rfl
  · exact absurd hn (by simp)
  · exact absurd hready hs

/-- The calls of a single read are a transaction of its operation (R64). -/
theorem transactionFits_of_readsFit {p : Params} {i : Instr} {cmd : BusCommand} {c : List Call}
    (hc : busCommandOf i = some cmd) (hr : rlen cmd ≠ 0) (h : readsFit p [cmd] c) : transactionFits p i c := by
  refine .inr (.inr ⟨cmd, hc, ?_⟩)
  rw [argument_eq_zero_of_reading hc hr]
  rcases h with hwrite | hread | ⟨raw, _, rfl⟩ | ⟨raw, c', _, rfl, rfl⟩
  · exact .inl hwrite
  · exact .inr (.inr (.inr ⟨hr, hread⟩))
  · exact .inr (.inr (.inl ⟨hr, raw, rfl⟩))
  · exact .inr (.inr (.inl ⟨hr, raw, rfl⟩))

theorem exec_reading_callsMade {i : Instr} {cmd : BusCommand} {s t : State} (hc : busCommandOf i = some cmd)
    (hr : rlen cmd ≠ 0) (hl : legalIn cmd s.ss = true) (hs : s.life = .ready) (he : exec i s = .next t) :
    s.CallsMade (transactionFits s.params i) t := by
  obtain ⟨k, hk, henv⟩ := exec_reading hc hr hl hs
  rw [hk] at he
  have hreads : s.CallsMade (readsFit s.params [cmd]) t :=
    .of_finish (checkedRead_callsMade hs fun raw u _ => (henv raw u).imp fun _ hv => .of_env_eq rfl hv) he
  exact hreads.imp fun _ h => transactionFits_of_readsFit hc hr h

theorem exec_write_callsMade {i : Instr} {cmd : BusCommand} {s t : State} (hc : busCommandOf i = some cmd)
    (hr : rlen cmd = 0) (hl : legalIn cmd s.ss = true) (hs : s.life = .ready) (he : exec i s = .next t) :
    s.CallsMade (transactionFits s.params i) t := by
  rw [exec_write hc hr hl hs] at he
  refine State.CallsMade.of_finish ?_ he
  rcases doWriteCmd_cases cmd i.argument s with ⟨_, hd⟩ | ⟨_, hd⟩ <;> rw [hd]
  · exact ⟨_, congrArg Env.calls (writtenState_env cmd _), .inr (.inr ⟨cmd, hc, .inr (.inl ⟨hr, rfl⟩)⟩)⟩
  · exact ⟨_, rfl, .inr (.inr ⟨cmd, hc, .inl ⟨_, rfl⟩⟩)⟩

/-- `INIT` probes the device when its argument is legal, and makes no other call (R211). -/
theorem exec_init_callsMade {n : Nat} {s t : State} (hs : s.life = .uninit) (he : exec (.init n) s = .next t) :
    s.CallsMade (transactionFits s.params (.init n)) t := by
  rw [exec_init n hs] at he
  split at he
  · exact Host.Outcome.next.inj he ▸ .of_env_eq (transactionFits_nil _ _) rfl
  · split at he <;> exact Host.Outcome.next.inj he ▸ ⟨_, rfl, .inr (.inl ⟨n, _, rfl, rfl⟩)⟩

theorem exec_setWindow_env {n : Nat} {s t : State} (hs : s.life = .ready) (he : exec (.setWindow n) s = .next t) :
    t.env = s.env := by
  rw [exec_setWindow n hs] at he
  split at he <;> exact Host.Outcome.next.inj he ▸ rfl

/-- The calls of a bus command in any session state: none where it is illegal (R229). -/
theorem exec_busCommand_callsMade {i : Instr} {cmd : BusCommand} {s t : State} (hc : busCommandOf i = some cmd)
    (hs : s.life = .ready) (he : exec i s = .next t) : s.CallsMade (transactionFits s.params i) t := by
  by_cases hl : legalIn cmd s.ss = true
  · by_cases hr : rlen cmd = 0
    · exact exec_write_callsMade hc hr hl hs he
    · exact exec_reading_callsMade hc hr hl hs he
  · rw [exec_illegal hc (by simpa using hl) hs] at he
    exact Host.Outcome.next.inj he ▸ .of_env_eq (transactionFits_nil _ _) rfl

theorem exec_callsMade {i : Instr} {s t : State} (hi : i ≠ .deviceInfo) (he : exec i s = .next t) :
    s.CallsMade (transactionFits s.params i) t := by
  rcases exec_prologue_cases i s with ⟨e, hp⟩ | ⟨n, rfl, hu⟩ | ⟨hni, hready⟩
  · rw [hp] at he
    exact Host.Outcome.next.inj he ▸ .of_env_eq (transactionFits_nil _ _) rfl
  · exact exec_init_callsMade hu he
  rcases instr_cases i with ⟨n, rfl⟩ | ⟨n, rfl⟩ | rfl | rfl | ⟨cmd, hc, _⟩ | ⟨cmd, hc, _⟩
  · exact absurd rfl (hni n)
  · exact .of_env_eq (transactionFits_nil _ _) (exec_setWindow_env hready he)
  · exact absurd rfl hi
  · exact exec_busCommand_callsMade rfl hready he
  · exact exec_busCommand_callsMade hc hready he
  · exact exec_busCommand_callsMade hc hready he

/-- Settles O42: `DEVICE_INFO` by its five reads, every other instruction by its one transaction. -/
theorem busTransactionShape : Obligations.BusTransactionShape := by
  intro i s t he
  by_cases hi : i = .deviceInfo
  · subst hi
    by_cases hs : s.life = .ready
    · obtain ⟨c, hc, hfit⟩ := exec_deviceInfo_callsMade hs he
      exact ⟨c, hc, fun h => absurd rfl h, fun _ _ => hfit, fun _ h => absurd hs h⟩
    · obtain ⟨c, hc, hnone⟩ : s.CallsMade (· = []) t := .of_env_eq rfl (exec_deviceInfo_env_of_not_ready hs he)
      exact ⟨c, hc, fun h => absurd rfl h, fun _ h => absurd h hs, fun _ _ => hnone⟩
  · obtain ⟨c, hc, hfit⟩ := exec_callsMade hi he
    exact ⟨c, hc, fun _ => hfit, fun h => absurd h hi, fun h => absurd h hi⟩

end Sys2Proof.Machine
end

section
/-! The statements of the host encoding (spec/30_encoding.md R90, R91). `Operation.withArg` is what the decoder makes of an
operation's `OPSEL` and an `ARG`; `decode_cases` says that a request is one of these or is rejected, and both directions of
the agreement are facts about `withArg`. -/

namespace Sys2Proof

/-- The instruction of an operation and an `ARG`, which all but three operations ignore (R91). -/
def Operation.withArg : Operation → Word → Instr
  | .init, arg => .init arg.toNat
  | .startMeas, _ => .startMeas
  | .stopMeas, _ => .stopMeas
  | .readDataReady, _ => .readDataReady
  | .readMeas, _ => .readMeas
  | .sleep, _ => .sleep
  | .wakeup, _ => .wakeup
  | .startFanClean, _ => .startFanClean
  | .readAutoclean, _ => .readAutoclean
  | .writeAutoclean, arg => .writeAutoclean arg
  | .readProductType, _ => .readProductType
  | .readSerial, _ => .readSerial
  | .readFwVersion, _ => .readFwVersion
  | .readStatus, _ => .readStatus
  | .clearStatus, _ => .clearStatus
  | .reset, _ => .reset
  | .setWindow, arg => .setWindow arg.toNat
  | .deviceInfo, _ => .deviceInfo

/-! ### An operation with its `ARG` -/

@[simp] theorem Operation.withArg_operation (op : Operation) (arg : Word) : (op.withArg arg).operation = op := by
  cases op <;> rfl

/-- Every 32-bit `ARG` is an argument the host can name. -/
@[simp] theorem Operation.withArg_wellFormed (op : Operation) (arg : Word) : (op.withArg arg).wellFormed = true := by
  cases op with
  | init | setWindow => exact decide_eq_true arg.isLt
  | _ => rfl

/-- The operations that use `ARG` keep the whole of it (R34). -/
theorem Operation.withArg_argument {op : Operation} (h : op = .init ∨ op = .setWindow ∨ op = .writeAutoclean)
    (arg : Word) : (op.withArg arg).argument = arg := by
  rcases h with rfl | rfl | rfl <;> simp [Operation.withArg, Instr.argument]

/-- A window size that fits `ARG` is not cut; the other arguments are kept as they are. -/
theorem Instr.withArg_argument {i : Instr} (h : i.wellFormed = true) : i.operation.withArg i.argument = i := by
  cases i with
  | init n => exact congrArg Instr.init (Nat.mod_eq_of_lt (of_decide_eq_true h))
  | setWindow n => exact congrArg Instr.setWindow (Nat.mod_eq_of_lt (of_decide_eq_true h))
  | _ => rfl

/-! ### The decoder -/

@[simp] theorem decode_opsel (op : Operation) (arg : Word) : decode ⟨op.opsel, arg⟩ = .ok (op.withArg arg) := by
  cases op <;> rfl

theorem Operation.opsel_lt (op : Operation) : op.opsel.toNat < 18 := by
  cases op <;> decide

/-- The operations in the order of their `OPSEL` codes: the rows of R90. -/
def opselTable : List Operation :=
  [.init, .startMeas, .stopMeas, .readDataReady, .readMeas, .sleep, .wakeup, .startFanClean, .readAutoclean,
    .writeAutoclean, .readProductType, .readSerial, .readFwVersion, .readStatus, .clearStatus, .reset, .setWindow, .deviceInfo]

theorem opselTable_opsel : ∀ k : Fin 18, opselTable[k].opsel = BitVec.ofNat 5 k := by
  decide

/-- The codes below 18 are all in use (R90). -/
theorem exists_opsel_eq {k : BitVec 5} (h : k.toNat < 18) : ∃ op : Operation, op.opsel = k :=
  ⟨_, (opselTable_opsel ⟨k.toNat, h⟩).trans (by simp)⟩

theorem decode_unknown {r : Request} (h : 18 ≤ r.opsel.toNat) : decode r = .error (.unknownOp r.opsel) := by
  unfold decode
  split
  case h_19 => rfl
  all_goals omega

/-- Everything the decoder can do (R90, R91). -/
theorem decode_cases (r : Request) :
    (∃ op : Operation, r.opsel = op.opsel ∧ decode r = .ok (op.withArg r.arg)) ∨
      (18 ≤ r.opsel.toNat ∧ decode r = .error (.unknownOp r.opsel)) := by
  rcases Nat.lt_or_ge r.opsel.toNat 18 with hlt | hge
  · obtain ⟨op, hop⟩ := exists_opsel_eq hlt
    refine .inl ⟨op, hop.symm, ?_⟩
    rw [← decode_opsel, hop]
  · exact .inr ⟨hge, decode_unknown hge⟩

/-- Decode is a left inverse of encode on the instructions the host can name. -/
theorem decode_encode {i : Instr} (h : i.wellFormed = true) : decode (encode i) = .ok i := by
  rw [encode, decode_opsel, Instr.withArg_argument h]

/-- A request that decodes names its operation by that operation's code (R90). -/
theorem decode_eq_ok {r : Request} {i : Instr} (h : decode r = .ok i) :
    r.opsel = i.operation.opsel ∧ i = i.operation.withArg r.arg := by
  rcases decode_cases r with ⟨op, hop, hd⟩ | ⟨_, hd⟩
  · obtain rfl : op.withArg r.arg = i := Except.ok.inj (hd.symm.trans h)
    rw [Operation.withArg_operation]
    exact ⟨hop, rfl⟩
  · rw [hd] at h
    contradiction

/-- Exactly the codes from 18 are rejected (R91). -/
theorem decode_eq_unknown_iff (r : Request) : decode r = .error (.unknownOp r.opsel) ↔ 18 ≤ r.opsel.toNat := by
  rcases decode_cases r with ⟨op, hop, hd⟩ | ⟨hge, hd⟩
  · have hlt := op.opsel_lt
    rw [← hop] at hlt
    simp [hd, hlt]
  · simp [hd, hge]

/-! ### Words of the opcode table -/

/-- The numbering of the opcode table loses nothing of a request whose bits fit the word (entry 2). -/
theorem requestOfTableWord_eq {nbits : Nat} {r : Request} (h : r.opsel.toNat + 256 * r.arg.toNat < 2 ^ nbits) :
    requestOfTableWord nbits (r.opsel.toNat + 256 * r.arg.toNat) = r := by
  have hopsel := r.opsel.isLt
  have harg := r.arg.isLt
  have hlow : BitVec.ofNat 5 (r.opsel.toNat + 256 * r.arg.toNat) = r.opsel := by
    apply BitVec.eq_of_toNat_eq
    rw [BitVec.toNat_ofNat]
    omega
  have hhigh : BitVec.ofNat 32 ((r.opsel.toNat + 256 * r.arg.toNat) / 256) = r.arg := by
    apply BitVec.eq_of_toNat_eq
    rw [BitVec.toNat_ofNat]
    omega
  rw [requestOfTableWord, Nat.mod_eq_of_lt h, hlow, hhigh]

theorem decodeTableWord_of_decode {nbits : Nat} {r : Request} {i : Instr}
    (h : r.opsel.toNat + 256 * r.arg.toNat < 2 ^ nbits) (hd : decode r = .ok i) :
    decodeTableWord nbits (r.opsel.toNat + 256 * r.arg.toNat) = some i := by
  rw [decodeTableWord, requestOfTableWord_eq h, hd]

/-- A byte that holds a selector only is the operation with `ARG` 0. -/
theorem decodeTableWord_opsel (op : Operation) : decodeTableWord 8 op.opsel.toNat = some (op.withArg 0) := by
  have hlt := op.opsel_lt
  exact decodeTableWord_of_decode (r := ⟨op.opsel, 0⟩) (by simp; omega) (decode_opsel op 0)

theorem decodeTableWord_unknown {k : Nat} (h18 : 18 ≤ k) (h32 : k < 32) : decodeTableWord 8 k = none := by
  have hk : (BitVec.ofNat 5 k).toNat = k := Nat.mod_eq_of_lt h32
  have hr : requestOfTableWord 8 k = ⟨BitVec.ofNat 5 k, 0⟩ := by
    simpa [hk] using requestOfTableWord_eq (nbits := 8) (r := ⟨BitVec.ofNat 5 k, 0⟩) (by simp; omega)
  rw [decodeTableWord, hr, decode_unknown (hk.symm ▸ h18)]

/-- Settles O10: each word of the table is its row's `OPSEL`. -/
theorem selectorTableWords : Obligations.SelectorTableWords :=
  ⟨decodeTableWord_opsel .init, decodeTableWord_opsel .startMeas, decodeTableWord_opsel .stopMeas,
    decodeTableWord_opsel .readDataReady, decodeTableWord_opsel .readMeas, decodeTableWord_opsel .sleep,
    decodeTableWord_opsel .wakeup, decodeTableWord_opsel .startFanClean, decodeTableWord_opsel .readAutoclean,
    decodeTableWord_opsel .writeAutoclean, decodeTableWord_opsel .readProductType, decodeTableWord_opsel .readSerial,
    decodeTableWord_opsel .readFwVersion, decodeTableWord_opsel .readStatus, decodeTableWord_opsel .clearStatus,
    decodeTableWord_opsel .reset, decodeTableWord_opsel .setWindow, decodeTableWord_opsel .deviceInfo,
    fun _ => decodeTableWord_unknown⟩

/-- Settles O9: `ARG` and `OPSEL` together fit 40 bits, and a request that decodes is its operation with its `ARG`. -/
theorem decodeEncodeAgree : Obligations.DecodeEncodeAgree := by
  refine ⟨fun i hi => ⟨decode_encode hi, decodeTableWord_of_decode ?_ (decode_encode hi)⟩, fun r i hd => ?_,
    decode_eq_unknown_iff⟩
  · have hopsel := (encode i).opsel.isLt
    have harg := (encode i).arg.isLt
    omega
  · obtain ⟨hopsel, hi⟩ := decode_eq_ok hd
    refine ⟨hi ▸ Operation.withArg_wellFormed _ _, hopsel.symm, fun huses => ?_⟩
    calc i.argument = (i.operation.withArg r.arg).argument := congrArg Instr.argument hi
      _ = r.arg := Operation.withArg_argument huses r.arg

end Sys2Proof
end

section
/-! The auto-clean round trip (spec/30_encoding.md R87, spec/46_session_operations.md R219, R220): the packets that
`WRITE_AUTOCLEAN` sends decode to the interval, and two operations on such a device make the trip. -/

namespace Sys2Proof.Machine

/-! ### Sent packets as a response -/

/-- A packet the block makes is a packet that checks (R116, R117). -/
@[simp] theorem packetOk_checksum (d0 d1 : Byte) : packetOk d0 d1 (checksum d0 d1) = true :=
  beq_self_eq_true _

@[simp] theorem takePackets_mkPacket (k : Nat) (d0 d1 : Byte) (rest : List Byte) :
    takePackets (k + 1) (mkPacket d0 d1 ++ rest) = (takePackets k rest).map ([d0, d1] ++ ·) :=
  if_pos (packetOk_checksum d0 d1)

/-- The packets of a dual-argument frame: its bytes after the opcode (R83). -/
theorem encodeDual_packets (op : BytePair) (h0 h1 : Half) : (encodeDual op h0 h1).drop 2 =
    mkPacket (highByte h0) (lowByte h0) ++ (mkPacket (highByte h1) (lowByte h1) ++ []) := rfl

theorem fieldData_encodeDual (op : BytePair) (h0 h1 : Half) :
    fieldData ((encodeDual op h0 h1).drop 2) 0 2 = some [highByte h0, lowByte h0, highByte h1, lowByte h1] := by
  rw [fieldData, encodeDual_packets, List.drop_zero, takePackets_mkPacket, takePackets_mkPacket]
  rfl

/-- The argument of `WRITE_AUTOCLEAN`, read as the response of `READ_AUTOCLEAN`, is the interval (R87 (b), (e)). -/
theorem asWord32LEH_writeAutoclean (p : Params) (v : Word) :
    asWord32LEH (fieldData ((encodeFrame p .writeAutoclean v).drop 2) 0 2) = (true, v) := by
  rw [encodeFrame, fieldData_encodeDual, asWord32LEH, w16_bytes, w16_bytes, w32leh_halves]

/-! ### The tuple after an update -/

@[simp] theorem State.deliver_tuple (s : State) (r : Result) : (s.deliver r).tuple = s.tuple := rfl
@[simp] theorem State.setEnv_tuple (s : State) (e : Env) : (s.setEnv e).tuple = s.tuple := rfl
@[simp] theorem State.setMoves_tuple (s : State) (ms : List HostMove) : (s.setMoves ms).tuple = s.tuple := rfl
@[simp] theorem State.startAttempt_tuple (s : State) : s.startAttempt.tuple = { s.tuple with errLast := 0 } := rfl

/-! ### Operations that succeed -/

/-- A requested instruction is executed on the state with the move taken. -/
theorem step_encode {i : Instr} {s : State} {ms : List HostMove} (hi : i.wellFormed = true)
    (hm : s.moves = .operation (encode i) :: ms) : step s = exec i (s.setMoves ms) := by
  simp only [step, hm, runMove, runRequest, decode_encode hi]

section
variable {i : Instr} {cmd : BusCommand} {s : State} (hc : busCommandOf i = some cmd) (hs : s.life = .ready)
  (hw : s.env.nextWrite = .ok)
include hc hs hw

/-- A write-only command whose write succeeds (R231). -/
theorem exec_write_ok (hr : rlen cmd = 0) (hl : legalIn cmd s.ss = true) :
    exec i s = .next ((writtenState cmd (s.setEnv (s.env.sent s.params (encodeFrame s.params cmd i.argument)
      (perCommand s.params.settle cmd)))).deliver .done) := by
  rw [exec_write hc hr hl hs, doWriteCmd_ok hw, Ran.andThen_done, finish_done]

/-- A single-field read that gets a response of the right length (R154, R232). -/
theorem exec_readField_ok {raw : List Byte} (hf : singleFieldRead cmd = true) (hrd : s.env.nextRead = .bytes raw)
    (hlen : raw.length = rlen cmd) :
    exec i s = .next (((s.attempted (invalidCount raw (packetCount cmd))).setEnv
      (s.env.exchanged s.params (encodeFrame s.params cmd 0) (perCommand s.params.settle cmd) (rlen cmd) raw)).deliver
        (fieldResult cmd (fieldData raw 0 (packetCount cmd)))) := by
  rw [exec_readField hc hf hs, readField_ok hw hrd hlen, Ran.andThen_done, finish_done]
  rfl

end

/-- `WRITE_AUTOCLEAN v` as a move of the host: of the block's own state nothing is written (R220). -/
theorem step_writeAutoclean {s : State} {v : Word} {ms : List HostMove}
    (hm : s.moves = .operation (encode (.writeAutoclean v)) :: ms) (hs : s.life = .ready) (hw : s.env.nextWrite = .ok) :
    step s = .next (((s.setMoves ms).setEnv (s.env.sent s.params (encodeFrame s.params .writeAutoclean v)
      s.params.settle.writeAutoclean)).deliver .done) :=
  (step_encode rfl hm).trans (exec_write_ok (cmd := .writeAutoclean) rfl hs hw rfl rfl)

/-- `READ_AUTOCLEAN` as a move of the host, when the device returns the packets of `WRITE_AUTOCLEAN v`: no error is counted
(R219). -/
theorem step_readAutoclean_of_sent {s : State} {p : Params} {v : Word} {ms : List HostMove}
    (hm : s.moves = .operation (encode .readAutoclean) :: ms) (hs : s.life = .ready) (hw : s.env.nextWrite = .ok)
    (hrd : s.env.nextRead = .bytes ((encodeFrame p .writeAutoclean v).drop 2)) :
    step s = .next (((s.setMoves ms).startAttempt.setEnv (s.env.exchanged s.params
      (encodeFrame s.params .readAutoclean 0) s.params.settle.readAutoclean 6
      ((encodeFrame p .writeAutoclean v).drop 2))).deliver (.word32Out true v)) := by
  have hvalid : invalidCount ((encodeFrame p .writeAutoclean v).drop 2) (packetCount .readAutoclean) = 0 := by
    rw [invalidCount, packetCount, encodeFrame, fieldData_encodeDual]
    rfl
  have hresult : fieldResult .readAutoclean
      (fieldData ((encodeFrame p .writeAutoclean v).drop 2) 0 (packetCount .readAutoclean)) = .word32Out true v := by
    rw [fieldResult, packetCount, asWord32LEH_writeAutoclean]
  rw [step_encode rfl hm, exec_readField_ok (s := s.setMoves ms) (cmd := .readAutoclean) rfl hs hw rfl hrd rfl, hvalid, hresult,
    State.attempted_zero]
  rfl

/-- Settles O50: the write leaves all but the environment, the read puts `ERR_LAST` at 0 and returns the interval. -/
theorem autocleanRoundTrip : Obligations.AutocleanRoundTrip := by
  intro s v ms hs hm hw hw' hrd
  refine ⟨_, _, step_writeAutoclean hm hs hw, step_readAutoclean_of_sent rfl hs hw' hrd, ?_, ?_, ?_⟩
  · exact List.append_assoc s.results [.done] [.word32Out true v]
  · simp only [State.deliver_tuple, State.setEnv_tuple, State.setMoves_tuple, State.startAttempt_tuple]
  · rfl

end Sys2Proof.Machine
end

section
/-! The statements of the Checksum Engine (spec/40_checksum.md R111 to R117). One iteration is linear over exclusive or and
its kernel is zero, so the eight iterations of a data byte are linear and lose nothing; the initial value `0xFF` makes the
checksum affine instead of linear (R115). -/

namespace Sys2Proof.Machine

/-! ### One iteration -/

/-- What an iteration adds to the shifted accumulator: the polynomial when the bit shifted out is set. -/
def polynomialIf (b : Bool) : Byte := if b then 0x31 else 0

theorem polynomialIf_xor (b c : Bool) : polynomialIf (b ^^ c) = polynomialIf b ^^^ polynomialIf c := by
  revert b c; decide

theorem crcStep_eq_shift_xor (a : Byte) : crcStep a = a <<< 1 ^^^ polynomialIf a.msb := by
  cases h : a.msb <;> simp [crcStep, polynomialIf, h]

/-- An iteration is linear: the shift is, and so is the polynomial's part. -/
theorem crcStep_xor (a b : Byte) : crcStep (a ^^^ b) = crcStep a ^^^ crcStep b := by
  simp only [crcStep_eq_shift_xor, BitVec.shiftLeft_xor_distrib, BitVec.msb_xor, polynomialIf_xor]
  ac_rfl

/-- The polynomial is odd, so bit 0 after an iteration tells the bit it shifted out. -/
theorem getLsbD_zero_crcStep (a : Byte) : (crcStep a).getLsbD 0 = a.msb := by
  cases h : a.msb <;> simp [crcStep, h]

theorem eq_zero_of_crcStep_eq_zero {a : Byte} (h : crcStep a = 0) : a = 0 := by
  have hmsb : a.msb = false := by rw [← getLsbD_zero_crcStep, h]; rfl
  have hshift : a <<< 1 = 0 := by simpa [crcStep, hmsb] using h
  have hsmall : 2 * a.toNat < 2 ^ 8 := BitVec.msb_eq_false_iff_two_mul_lt.mp hmsb
  bv_omega

theorem crcStep_injective : Function.Injective crcStep := by
  intro a b h
  have hxor : crcStep (a ^^^ b) = 0 := by rw [crcStep_xor, h, BitVec.xor_self]; rfl
  exact BitVec.xor_eq_zero_iff.mp (eq_zero_of_crcStep_eq_zero hxor)

/-! ### One data byte, and the two bytes of a packet -/

theorem crcByte_eq_iterate (acc b : Byte) : crcByte acc b = crcStep^[8] (acc ^^^ b) := rfl

theorem crcByte_xor (a a' b b' : Byte) : crcByte (a ^^^ a') (b ^^^ b') = crcByte a b ^^^ crcByte a' b' := by
  have hsplit : a ^^^ a' ^^^ (b ^^^ b') = a ^^^ b ^^^ (a' ^^^ b') := by ac_rfl
  rw [crcByte_eq_iterate, hsplit]
  exact Function.Semiconj₂.iterate crcStep_xor 8 _ _

theorem crcByte_inj_right (acc b c : Byte) : crcByte acc b = crcByte acc c ↔ b = c :=
  ((crcStep_injective.iterate 8).eq_iff).trans (BitVec.xor_right_inj acc)

theorem crcByte_inj_left (a b x : Byte) : crcByte a x = crcByte b x ↔ a = b :=
  ((crcStep_injective.iterate 8).eq_iff).trans (BitVec.xor_left_inj x)

theorem checksum_inj_right (d0 x y : Byte) : checksum d0 x = checksum d0 y ↔ x = y :=
  crcByte_inj_right _ x y

theorem checksum_inj_left (x y d1 : Byte) : checksum x d1 = checksum y d1 ↔ x = y :=
  (crcByte_inj_left _ _ d1).trans (crcByte_inj_right _ x y)

/-- Three checksums together: the initial value survives, since `0xFF ^^^ 0xFF ^^^ 0xFF = 0xFF`. -/
theorem checksum_xor_xor (x0 x1 y0 y1 z0 z1 : Byte) :
    checksum x0 x1 ^^^ checksum y0 y1 ^^^ checksum z0 z1 = checksum (x0 ^^^ y0 ^^^ z0) (x1 ^^^ y1 ^^^ z1) := by
  calc checksum x0 x1 ^^^ checksum y0 y1 ^^^ checksum z0 z1
    _ = crcByte (crcByte (0xFF ^^^ 0xFF ^^^ 0xFF) (x0 ^^^ y0 ^^^ z0)) (x1 ^^^ y1 ^^^ z1) := by
      simp only [checksum, crcByte_xor]
    _ = checksum (x0 ^^^ y0 ^^^ z0) (x1 ^^^ y1 ^^^ z1) := rfl

theorem packetOk_iff {d0 d1 c : Byte} : packetOk d0 d1 c = true ↔ checksum d0 d1 = c := beq_iff_eq

theorem packetOk_eq_false_iff {d0 d1 c : Byte} : packetOk d0 d1 c = false ↔ checksum d0 d1 ≠ c := beq_eq_false_iff_ne

/-! ### The statements -/

/-- Settles O12; two messages of zeros show that the checksum is not linear. -/
theorem checksumIsAffine : Obligations.ChecksumIsAffine := by
  have hfirst : crcByte 0xFF 0x00 = 0xAC := by decide
  have hsecond : crcByte 0xAC 0x00 = 0x81 := by decide
  have hzero : checksum 0x00 0x00 = 0x81 := by rw [checksum, hfirst, hsecond]
  refine ⟨checksum_xor_xor, hzero, 0x00, 0x00, 0x00, 0x00, ?_⟩
  have hxor : (0x00 : Byte) ^^^ 0x00 = 0x00 := rfl
  rw [hxor, hzero]
  decide

/-- Settles O13: on bytes, an injective map is a bijection. -/
theorem checksumDetectsOneBadByte : Obligations.ChecksumDetectsOneBadByte := by
  refine ⟨fun b0 => Finite.injective_iff_bijective.mp fun x y => (checksum_inj_right b0 x y).mp,
    fun b1 => Finite.injective_iff_bijective.mp fun x y => (checksum_inj_left x y b1).mp, fun d0 d1 c x hok => ?_⟩
  obtain rfl := packetOk_iff.mp hok
  simp only [packetOk_eq_false_iff, ne_eq, checksum_inj_left, checksum_inj_right]
  exact ⟨id, id, Ne.symm⟩

/-- Settles O11: the trace of the first byte ends in the accumulator with which that of the second begins. -/
theorem checksumReferenceVector : Obligations.ChecksumReferenceVector := by
  have hfirst : crcByte 0xFF 0xBE = 0x0C := by decide
  have hsecond : crcByte 0x0C 0xEF = 0x92 := by decide
  refine ⟨by rw [checksum, hfirst, hsecond], ?_, ?_⟩
  · rw [List.range_map_iterate]
    decide
  · rw [List.range_map_iterate]
    decide

end Sys2Proof.Machine
end

section
/-! The statements of the Command Encoder (spec/41_command_encoder.md R121 to R127). The three shapes of a frame are one:
the opcode, then one packet for each half-word sent, of which there are none, one or two. -/

namespace Sys2Proof.Machine

/-! ### Half-words as packets -/

/-- One packet for each half-word, first half-word first. -/
def halfPackets (hs : List Half) : List Byte := hs.flatMap fun h => mkPacket (highByte h) (lowByte h)

@[simp] theorem halfPackets_nil : halfPackets [] = [] := rfl

@[simp] theorem halfPackets_cons (h : Half) (hs : List Half) : halfPackets (h :: hs) =
    highByte h :: lowByte h :: checksum (highByte h) (lowByte h) :: halfPackets hs := rfl

theorem halfPackets_length (hs : List Half) : (halfPackets hs).length = 3 * hs.length := by
  induction hs with
  | nil => rfl
  | cons h hs ih => simp only [halfPackets_cons, List.length_cons, ih]; omega

/-- Bytes in front of the packets move the offset of each packet. -/
theorem packetChecks_append (pre raw : List Byte) (o : Nat) :
    packetChecks (pre ++ raw) (pre.length + o) = packetChecks raw o := by
  simp only [packetChecks, Nat.add_assoc, List.getD_append_right _ _ _ _ (Nat.le_add_right _ _), Nat.add_sub_cancel_left]

/-- The first packet checks because the block made its checksum; the later ones stand three bytes further on. -/
theorem packetChecks_halfPackets {hs : List Half} {j : Nat} (hj : j < hs.length) :
    packetChecks (halfPackets hs) (3 * j) = true := by
  induction hs generalizing j with
  | nil => exact absurd hj (Nat.not_lt_zero j)
  | cons h hs ih =>
    cases j with
    | zero => exact packetOk_checksum (highByte h) (lowByte h)
    | succ j =>
      have hshift : 3 * (j + 1) = (mkPacket (highByte h) (lowByte h)).length + 3 * j := Nat.add_comm (3 * j) 3
      calc packetChecks (mkPacket (highByte h) (lowByte h) ++ halfPackets hs) (3 * (j + 1))
        _ = packetChecks (halfPackets hs) (3 * j) := by rw [hshift, packetChecks_append]
        _ = true := ih (Nat.lt_of_succ_lt_succ hj)

/-! ### The frame of a command -/

/-- The half-words a command sends after its opcode, in wire order (R124). -/
def sentHalves (p : Params) (cmd : BusCommand) (v : Word) : List Half :=
  if cmd = .startMeas then [w16 p.startArg.first p.startArg.second]
  else if cmd = .writeAutoclean then [lowHalf v, highHalf v]
  else []

/-- R121 to R124 in one equation. -/
theorem encodeFrame_eq (p : Params) (cmd : BusCommand) (v : Word) :
    encodeFrame p cmd v = encodeBare (perCommand p.opcode cmd) ++ halfPackets (sentHalves p cmd v) := by
  cases cmd <;> rfl

theorem sentHalves_length_le (p : Params) (cmd : BusCommand) (v : Word) : (sentHalves p cmd v).length ≤ 2 := by
  unfold sentHalves
  split_ifs <;> simp

/-! ### The argument bytes of `WRITE_AUTOCLEAN` -/

theorem highByte_lowHalf (v : Word) : highByte (lowHalf v) = BitVec.ofNat 8 (v.toNat / 2 ^ 8) := by
  apply BitVec.eq_of_toNat_eq
  rw [highByte_toNat, lowHalf_toNat, BitVec.toNat_ofNat]
  omega

theorem lowByte_lowHalf (v : Word) : lowByte (lowHalf v) = BitVec.ofNat 8 v.toNat := by
  apply BitVec.eq_of_toNat_eq
  rw [lowByte_toNat, lowHalf_toNat, BitVec.toNat_ofNat]
  omega

theorem highByte_highHalf (v : Word) : highByte (highHalf v) = BitVec.ofNat 8 (v.toNat / 2 ^ 24) := by
  apply BitVec.eq_of_toNat_eq
  have hv := v.isLt
  rw [highByte_toNat, highHalf_toNat, BitVec.toNat_ofNat]
  omega

theorem lowByte_highHalf (v : Word) : lowByte (highHalf v) = BitVec.ofNat 8 (v.toNat / 2 ^ 16) := by
  apply BitVec.eq_of_toNat_eq
  rw [lowByte_toNat, highHalf_toNat, BitVec.toNat_ofNat]
  rfl

/-! ### The statements -/

/-- Settles O15, along the three shapes of R124. -/
theorem encoderFrames : Obligations.EncoderFrames := by
  intro p cmd v
  rw [encodeFrame_eq, sentHalves]
  split_ifs with hstart hwrite
  · subst hstart
    simp only [halfPackets_cons, halfPackets_nil, highByte_w16, lowByte_w16]
    rfl
  · subst hwrite
    simp only [halfPackets_cons, halfPackets_nil, highByte_lowHalf, lowByte_lowHalf, highByte_highHalf, lowByte_highHalf]
    rfl
  · rfl

/-- Settles O16: `g` is the number of half-words sent. -/
theorem encoderGroupsCheck : Obligations.EncoderGroupsCheck := by
  intro p cmd v
  rw [encodeFrame_eq]
  refine ⟨(sentHalves p cmd v).length, sentHalves_length_le p cmd v, ?_, fun j hj => ?_⟩
  · rw [List.length_append, halfPackets_length]
    rfl
  · exact (packetChecks_append (encodeBare _) _ (3 * j)).trans (packetChecks_halfPackets hj)

end Sys2Proof.Machine
end

section
/-! The statements of the Response Decoder (spec/42_response_decoder.md): the verdict and the data bytes of a field (R144), and
the bounds of `ERR_LAST` after a reading attempt (R156). A field is followed packet by packet along its offset (`fieldData_succ`);
an attempt is an exchange and a length check, and only what comes after them counts errors (`exec_reading_counts`). -/

namespace Sys2Proof.Machine

/-! ### The data bytes of a field -/

/-- The data bytes of the `k` packets of `raw` from byte offset `off` on, in wire order, whether the packets check or not. -/
def fieldBytes (raw : List Byte) (off k : Nat) : List Byte :=
  (List.range k).flatMap fun j => [raw.getD (off + 3 * j) 0, raw.getD (off + 3 * j + 1) 0]

@[simp] theorem fieldBytes_zero (raw : List Byte) (off : Nat) : fieldBytes raw off 0 = [] := rfl

theorem fieldBytes_succ (raw : List Byte) (off k : Nat) :
    fieldBytes raw off (k + 1) = raw.getD off 0 :: raw.getD (off + 1) 0 :: fieldBytes raw (off + 3) k := by
  have hoff : ∀ j, off + 3 * (j + 1) = off + 3 + 3 * j := by omega
  simp [fieldBytes, List.range_succ_eq_map, List.flatMap_map, hoff]

theorem fieldBytes_length (raw : List Byte) (off k : Nat) : (fieldBytes raw off k).length = 2 * k := by
  simp [fieldBytes, List.length_flatMap, Nat.mul_comm]

/-- Bytes `2j` and `2j + 1` of the data are the data bytes of packet `j`. -/
theorem fieldBytes_getD (raw : List Byte) (off : Nat) {j k : Nat} (hj : j < k) :
    (fieldBytes raw off k).getD (2 * j) 0 = raw.getD (off + 3 * j) 0 ∧
      (fieldBytes raw off k).getD (2 * j + 1) 0 = raw.getD (off + 3 * j + 1) 0 := by
  induction k generalizing off j with
  | zero => exact absurd hj (Nat.not_lt_zero j)
  | succ k ih =>
    rw [fieldBytes_succ]
    cases j with
    | zero => exact ⟨rfl, rfl⟩
    | succ j =>
      have hoff : off + 3 * (j + 1) = off + 3 + 3 * j := by omega
      rw [hoff]
      exact ih (off + 3) (Nat.lt_of_succ_lt_succ hj)

/-! ### The verdict of a field -/

theorem fieldData_zero (raw : List Byte) (off : Nat) : fieldData raw off 0 = some [] := rfl

theorem drop_eq_packet {raw : List Byte} {off : Nat} (h : off + 3 ≤ raw.length) :
    raw.drop off = raw.getD off 0 :: raw.getD (off + 1) 0 :: raw.getD (off + 2) 0 :: raw.drop (off + 3) := by
  rw [List.drop_eq_getElem_cons (by omega), List.drop_eq_getElem_cons (by omega), List.drop_eq_getElem_cons (by omega),
    List.getD_eq_getElem _ _ (by omega), List.getD_eq_getElem _ _ (by omega), List.getD_eq_getElem _ _ (by omega)]

/-- The first packet decides, and the rest of the field is a field three bytes further on (R142, R144). -/
theorem fieldData_succ {raw : List Byte} {off : Nat} (h : off + 3 ≤ raw.length) (k : Nat) :
    fieldData raw off (k + 1) = if packetChecks raw off then
      (fieldData raw (off + 3) k).map ([raw.getD off 0, raw.getD (off + 1) 0] ++ ·) else none := by
  rw [fieldData, drop_eq_packet h]
  rfl

/-- The packets of a field of `k + 1` packets: the first, and those of the field three bytes further on. -/
theorem packetChecks_forall_succ (raw : List Byte) (off k : Nat) :
    (∀ j < k + 1, packetChecks raw (off + 3 * j) = true) ↔
      packetChecks raw off = true ∧ ∀ j < k, packetChecks raw (off + 3 + 3 * j) = true := by
  have hoff : ∀ j, off + 3 * (j + 1) = off + 3 + 3 * j := by omega
  simp only [Nat.forall_lt_succ_left, hoff, Nat.mul_zero, Nat.add_zero]

/-- A field inside the response: its data bytes if every packet checks, else no value (R144). -/
theorem fieldData_eq {raw : List Byte} {off k : Nat} (h : off + 3 * k ≤ raw.length) :
    fieldData raw off k =
      if ∀ j < k, packetChecks raw (off + 3 * j) = true then some (fieldBytes raw off k) else none := by
  induction k generalizing off with
  | zero => simp [fieldData_zero]
  | succ k ih =>
    rw [fieldData_succ (by omega), ih (by omega), fieldBytes_succ]
    simp only [packetChecks_forall_succ]
    by_cases hfirst : packetChecks raw off = true
    · by_cases hrest : ∀ j < k, packetChecks raw (off + 3 + 3 * j) = true
      · rw [if_pos hfirst, if_pos hrest, if_pos ⟨hfirst, hrest⟩]
        rfl
      · rw [if_pos hfirst, if_neg hrest, if_neg fun hall => hrest hall.2]
        rfl
    · rw [if_neg hfirst, if_neg fun hall => hfirst hall.1]

/-- Settles O18, from the closed form of the verdict. -/
theorem fieldDecodeVerdict : Obligations.FieldDecodeVerdict := by
  intro raw off k s hlen
  refine ⟨fun hall => ⟨fieldBytes raw off k, ?_, fieldBytes_length raw off k, fun j => fieldBytes_getD raw off⟩,
    fun ⟨j, hj, hbad⟩ => ?_⟩
  · rw [decodeField, fieldData_eq hlen, if_pos hall]
  · have hnot : ¬ ∀ j < k, packetChecks raw (off + 3 * j) = true := fun hall => by simp [hall j hj] at hbad
    rw [decodeField, fieldData_eq hlen, if_neg hnot]

/-! ### How many errors a response counts -/

/-- The invalid fields of a response of the right length: of the ten of a measurement, or of the one of any other reading
command (R146). -/
def invalidIn (cmd : BusCommand) (raw : List Byte) : Nat :=
  if cmd = .readMeas then invalidFields raw else invalidCount raw (packetCount cmd)

theorem invalidIn_readMeas (raw : List Byte) : invalidIn .readMeas raw = invalidFields raw := rfl

theorem invalidIn_of_singleField {cmd : BusCommand} (h : singleFieldRead cmd = true) (raw : List Byte) :
    invalidIn cmd raw = invalidCount raw (packetCount cmd) :=
  if_neg fun hcmd => by simp [hcmd, singleFieldRead] at h

theorem invalidIn_eq_zero_iff (cmd : BusCommand) (raw : List Byte) : invalidIn cmd raw = 0 ↔
    if cmd = .readMeas then invalidFields raw = 0 else invalidCount raw (packetCount cmd) = 0 := by
  unfold invalidIn
  split <;> rfl

theorem invalidCount_le_one (raw : List Byte) (k : Nat) : invalidCount raw k ≤ 1 := by
  unfold invalidCount
  split <;> decide

theorem invalidFields_le_ten (raw : List Byte) : invalidFields raw ≤ 10 :=
  List.countP_le_length

theorem counted_from_zero_toNat_le (n : Nat) : (counted 0 n).toNat ≤ n := by
  rw [counted_toNat]
  simp

theorem counted_from_zero_eq_zero_iff (n : Nat) : counted 0 n = 0 ↔ n = 0 := by
  rw [← BitVec.toNat_inj, counted_toNat]
  simp

/-! ### `ERR_LAST` after a reading attempt -/

theorem aggPush_errLast (f : Frame) (s : State) : (aggPush f s).2.errLast = s.errLast := by
  rcases aggPush_cases f s with ⟨_, h⟩ | ⟨_, _, h⟩ | ⟨_, _, h⟩ <;> rw [h] <;> rfl

theorem deliverFrame_leaves_errLast (r : Option Frame) (s : State) :
    (deliverFrame r s).Leaves (·.errLast = s.errLast) := by
  rcases deliverFrame_cases r s with ⟨_, h⟩ | ⟨f, _, _, _, h⟩ | ⟨f, _, _, h⟩ <;> rw [h]
  · exact rfl
  · exact aggPush_errLast f s
  · exact aggPush_errLast f s

/-- A legal reading command is a checked read, and what follows the length check counts the invalid fields. -/
theorem exec_reading_counts {i : Instr} {cmd : BusCommand} {s : State} (hc : busCommandOf i = some cmd)
    (hr : rlen cmd ≠ 0) (hl : legalIn cmd s.ss = true) (hs : s.life = .ready) :
    ∃ k, exec i s = finish (checkedRead cmd k s) ∧
      ∀ raw u, (k raw u).Leaves (·.errLast = counted u.errLast (invalidIn cmd raw)) := by
  rcases busCommand_shape hc with ⟨rfl, rfl⟩ | hf | h0
  · refine ⟨_, by rw [exec_readMeas (by simpa [legalIn] using hl) hs, measure_eq], fun raw u => ?_⟩
    rw [countFields_eq, invalidIn_readMeas]
    exact deliverFrame_leaves_errLast _ _
  · refine ⟨_, by rw [exec_readField hc hf hs, readField_andThen_eq], fun raw u => ?_⟩
    rw [decodeField_eq, invalidIn_of_singleField hf]
    exact rfl
  · exact absurd h0 hr

/-- How an attempt in `s` ended, with `ERR_LAST` at `c` after it (R156): the response was decoded and its invalid fields were
counted from 0, or the attempt stopped before the decode with `ERR_LAST` at 0. -/
def State.AttemptEnds (s : State) (cmd : BusCommand) (c : BitVec 32) : Prop :=
  (∃ raw, s.env.nextWrite = .ok ∧ s.env.nextRead = .bytes raw ∧ raw.length = rlen cmd ∧
    c = counted 0 (invalidIn cmd raw)) ∨
  (c = 0 ∧ (s.env.nextWrite = .ioFail ∨ s.env.nextRead = .ioFail ∨
    ∃ raw, s.env.nextRead = .bytes raw ∧ raw.length ≠ rlen cmd))

theorem checkedRead_attemptEnds {α : Type} {cmd : BusCommand} {k : List Byte → State → Ran α} {s : State}
    (hk : ∀ raw u, (k raw u).Leaves (·.errLast = counted u.errLast (invalidIn cmd raw))) :
    (checkedRead cmd k s).Leaves fun t => s.AttemptEnds cmd t.errLast := by
  cases hw : s.env.nextWrite with
  | ioFail =>
    rw [checkedRead_writeFail cmd k hw]
    exact .inr ⟨rfl, .inl hw⟩
  | ok =>
    cases hr : s.env.nextRead with
    | ioFail =>
      rw [checkedRead_readFail cmd k hw hr]
      exact .inr ⟨rfl, .inr (.inl hr)⟩
    | bytes raw =>
      by_cases hlen : raw.length = rlen cmd
      · rw [checkedRead_ok cmd k hw hr hlen]
        exact (hk raw _).imp fun t ht => .inl ⟨raw, hw, hr, hlen, ht⟩
      · rw [checkedRead_badLength cmd k hw hr hlen]
        exact .inr ⟨rfl, .inr (.inr ⟨raw, hr, hlen⟩)⟩

theorem exec_reading_attemptEnds {i : Instr} {cmd : BusCommand} {s t : State} (hc : busCommandOf i = some cmd)
    (hr : rlen cmd ≠ 0) (hl : legalIn cmd s.ss = true) (hs : s.life = .ready) (he : exec i s = .next t) :
    s.AttemptEnds cmd t.errLast := by
  obtain ⟨k, hk, hcounts⟩ := exec_reading_counts hc hr hl hs
  rw [hk] at he
  exact (checkedRead_attemptEnds hcounts).of_finish (fun _ _ h => h) he

namespace State.AttemptEnds
variable {s : State} {cmd : BusCommand} {c : BitVec 32}

/-- A bound on the invalid fields of a response bounds `ERR_LAST`. -/
theorem toNat_le (h : s.AttemptEnds cmd c) {n : Nat} (hn : ∀ raw, invalidIn cmd raw ≤ n) : c.toNat ≤ n := by
  rcases h with ⟨raw, _, _, _, rfl⟩ | ⟨rfl, _⟩
  · exact (counted_from_zero_toNat_le _).trans (hn raw)
  · exact Nat.zero_le n

theorem eq_zero_iff (h : s.AttemptEnds cmd c) : c = 0 ↔ s.env.nextWrite = .ioFail ∨ s.env.nextRead = .ioFail ∨
    ∃ raw, s.env.nextRead = .bytes raw ∧ (raw.length ≠ rlen cmd ∨ invalidIn cmd raw = 0) := by
  rcases h with ⟨raw, hw, hr, hlen, rfl⟩ | ⟨rfl, hstop⟩
  · rw [counted_from_zero_eq_zero_iff]
    simp [hw, hr, hlen]
  · refine iff_of_true rfl (hstop.imp_right (Or.imp_right ?_))
    exact fun ⟨raw, hr, hlen⟩ => ⟨raw, hr, .inl hlen⟩

end State.AttemptEnds

/-- Settles O44, by how the attempt ended. -/
theorem lastAttemptErrorBound : Obligations.LastAttemptErrorBound := by
  intro i cmd s t hc hr hl hs he
  have hend := exec_reading_attemptEnds hc hr hl hs he
  refine ⟨fun hf => hend.toNat_le fun raw => ?_, ?_, ?_⟩
  · rw [invalidIn_of_singleField hf]
    exact invalidCount_le_one raw _
  · rintro rfl
    refine hend.toNat_le fun raw => ?_
    rw [invalidIn_readMeas]
    exact invalidFields_le_ten raw
  · simp only [← invalidIn_eq_zero_iff]
    exact hend.eq_zero_iff

end Sys2Proof.Machine
end

section
/-! SUPPORT. The Float32 decoder (spec/43_float_decoder.md R161, R162, R168): the class and the value of a word from its fields,
and the model's units of `2^(-149)` as the fractions of the spec. -/

namespace Sys2Proof.Machine

/-! ### The class and the value from the fields -/

/-- The five rows of R161: one of them holds of every word. -/
theorem f32Class_cases (w : Word) :
    (floatExponent w = 0 ∧ floatFraction w = 0 ∧ f32Class w = .zero) ∨
    (floatExponent w = 0 ∧ floatFraction w ≠ 0 ∧ f32Class w = .subnormal) ∨
    ((1 ≤ floatExponent w ∧ floatExponent w ≤ 254) ∧ f32Class w = .normal) ∨
    (floatExponent w = 255 ∧ floatFraction w = 0 ∧ f32Class w = .infinity) ∨
    (floatExponent w = 255 ∧ floatFraction w ≠ 0 ∧ f32Class w = .nan) := by
  have he := floatExponent_lt w
  unfold f32Class
  by_cases h0 : floatExponent w = 0
  · by_cases hf : floatFraction w = 0 <;> simp [h0, hf]
  · by_cases h255 : floatExponent w = 255
    · by_cases hf : floatFraction w = 0 <;> simp [h255, hf]
    · have hmid : 1 ≤ floatExponent w ∧ floatExponent w ≤ 254 := by omega
      simp [h0, h255, hmid]

section
variable {w : Word}

theorem f32Val_of_zero (he : floatExponent w = 0) (hf : floatFraction w = 0) : f32Val w = .finite (floatSign w) 0 := by
  simp [f32Val, f32Class, he, hf]

theorem f32Val_of_subnormal (he : floatExponent w = 0) (hf : floatFraction w ≠ 0) :
    f32Val w = .finite (floatSign w) (floatFraction w) := by
  simp [f32Val, f32Class, he, hf]

theorem f32Val_of_normal (h1 : 1 ≤ floatExponent w) (h254 : floatExponent w ≤ 254) :
    f32Val w = .finite (floatSign w) ((2 ^ 23 + floatFraction w) * 2 ^ (floatExponent w - 1)) := by
  have h0 : floatExponent w ≠ 0 := by omega
  have h255 : floatExponent w ≠ 255 := by omega
  simp [f32Val, f32Class, h0, h255]

theorem f32Val_of_infinity (he : floatExponent w = 255) (hf : floatFraction w = 0) : f32Val w = .infinity (floatSign w) := by
  simp [f32Val, f32Class, he, hf]

theorem f32Val_of_nan (he : floatExponent w = 255) (hf : floatFraction w ≠ 0) : f32Val w = .nan := by
  simp [f32Val, f32Class, he, hf]

end

/-- Settles O52: each row of the table excludes the other four. -/
theorem floatClassTable : Obligations.FloatClassTable := by
  intro w
  simp only [← floatExponent_eq, ← floatFraction_eq]
  rcases f32Class_cases w with ⟨he, hf, hc⟩ | ⟨he, hf, hc⟩ | ⟨⟨h1, h254⟩, hc⟩ | ⟨he, hf, hc⟩ | ⟨he, hf, hc⟩
  · simp [he, hf, hc]
  · simp [he, hf, hc]
  · have h0 : floatExponent w ≠ 0 := by omega
    have h255 : floatExponent w ≠ 255 := by omega
    simp [hc, h0, h255, h1, h254]
  · simp [he, hf, hc]
  · simp [he, hf, hc]

/-! ### Units of `2^(-149)` -/

/-- A unit is the last place of a fraction at the exponent of the subnormals. -/
theorem unit_eq : (2 : ℚ) ^ (-149 : ℤ) = (2 : ℚ) ^ (-126 : ℤ) / 2 ^ 23 := by
  norm_num

theorem subnormal_units (f : ℕ) : (f : ℚ) * (2 : ℚ) ^ (-149 : ℤ) = (f : ℚ) / 2 ^ 23 * (2 : ℚ) ^ (-126 : ℤ) := by
  rw [unit_eq]
  ring

/-- The implicit leading 1 is worth `2^23` units of the last place (R162). -/
theorem normal_units {e : ℕ} (he : 1 ≤ e) (f : ℕ) :
    (((2 ^ 23 + f) * 2 ^ (e - 1) : ℕ) : ℚ) * (2 : ℚ) ^ (-149 : ℤ) = (1 + (f : ℚ) / 2 ^ 23) * (2 : ℚ) ^ ((e : ℤ) - 127) := by
  have hscale : (2 : ℚ) ^ ((e : ℤ) - 127) = 2 ^ (e - 1) * (2 : ℚ) ^ (-126 : ℤ) := by
    rw [← zpow_natCast, ← zpow_add₀ two_ne_zero]
    congr 1
    omega
  rw [hscale, unit_eq]
  push_cast
  ring

/-- Settles O53, class by class; the worked example is the normal word with `e = 130` and `f = 0x200000`. -/
theorem floatValueFormula : Obligations.FloatValueFormula := by
  intro w
  simp only [← floatExponent_eq, ← floatFraction_eq, ← floatSign_eq]
  refine ⟨f32Val_of_zero, fun he hf => ⟨_, f32Val_of_subnormal he hf, subnormal_units _⟩,
    fun h1 h254 => ⟨_, f32Val_of_normal h1 h254, normal_units h1 _⟩, f32Val_of_infinity, f32Val_of_nan, ?_⟩
  exact f32Val_of_normal (by decide) (by decide)

/-! ### The decode vectors -/

/-- A NaN is equal to nothing, itself included (R165). -/
theorem floatEq_nan_left (v : FloatValue) : floatEq .nan v = false := rfl

/-- `13176795 / 2^22` is 3.1415927410125732421875, less than a unit in the last place above pi (R167). -/
theorem abs_float_pi_sub_pi_lt : |(13176795 : ℝ) * (2 : ℝ) ^ (-22 : ℤ) - Real.pi| < (2 : ℝ) ^ (-22 : ℤ) := by
  have hlow := Real.pi_gt_d20
  have hhigh := Real.pi_lt_d20
  rw [abs_lt]
  norm_num at hlow hhigh ⊢
  constructor <;> linarith

/-- Settles O54: the class of each vector gives its value. -/
theorem floatDecodeVectors : Obligations.FloatDecodeVectors := by
  have hnan : f32Val 0x7FC00000 = .nan := f32Val_of_nan (by decide) (by decide)
  refine ⟨f32Val_of_zero (by decide) (by decide), f32Val_of_zero (by decide) (by decide),
    f32Val_of_normal (by decide) (by decide), ⟨13176795 * 2 ^ 127, f32Val_of_normal (by decide) (by decide), ?_⟩,
    f32Val_of_infinity (by decide) (by decide), f32Val_of_infinity (by decide) (by decide), hnan, ?_⟩
  · have hunits : ((13176795 * 2 ^ 127 : ℕ) : ℝ) * (2 : ℝ) ^ (-149 : ℤ) = 13176795 * (2 : ℝ) ^ (-22 : ℤ) := by norm_num
    rw [hunits]
    exact abs_float_pi_sub_pi_lt
  · rw [hnan]
    exact floatEq_nan_left _

end Sys2Proof.Machine
end

section
/-! The statements of the Measurement Assembler (spec/44_measurement_assembler.md): the word and the verdict of each of the ten
fields and the three section flags (R177 to R179, R181), and a bad packet in the particle-size field (R186 (a)). The verdict of
a field is that of its two packets (`measField_eq`), so both statements are about which packets of the response check. -/

namespace Sys2Proof.Machine

/-! ### The ten fields -/

/-- The big-endian word of the data bytes of the two packets at byte offset `off`, whether they check or not (R70). -/
def packetsWord (raw : List Byte) (off : Nat) : Word :=
  w32be (w16 (raw.getD off 0) (raw.getD (off + 1) 0)) (w16 (raw.getD (off + 3) 0) (raw.getD (off + 4) 0))

theorem packetsWord_toNat (raw : List Byte) (off : Nat) : (packetsWord raw off).toNat =
    2 ^ 24 * (raw.getD off 0).toNat + 2 ^ 16 * (raw.getD (off + 1) 0).toNat +
      2 ^ 8 * (raw.getD (off + 3) 0).toNat + (raw.getD (off + 4) 0).toNat := by
  rw [packetsWord, w32be_toNat, w16_toNat, w16_toNat]
  omega

theorem asWord32BE_fieldBytes (raw : List Byte) (off : Nat) :
    asWord32BE (some (fieldBytes raw off 2)) = (true, packetsWord raw off) := rfl

/-- A field inside the response: the word of its data bytes if both its packets check, else `(false, 0)` (R177, R178). -/
theorem measField_eq {raw : List Byte} {i : Nat} (h : 6 * i + 6 ≤ raw.length) : measField raw i =
    if packetChecks raw (6 * i) = true ∧ packetChecks raw (6 * i + 3) = true then (true, packetsWord raw (6 * i))
    else (false, 0) := by
  have hboth : (∀ j < 2, packetChecks raw (6 * i + 3 * j) = true) ↔
      packetChecks raw (6 * i) = true ∧ packetChecks raw (6 * i + 3) = true := by
    rw [packetChecks_forall_succ, packetChecks_forall_succ]
    simp
  rw [measField, fieldData_eq h, apply_ite asWord32BE, asWord32BE_fieldBytes]
  simp only [hboth]
  rfl

theorem measField_of_checks {raw : List Byte} {i : Nat} (h : 6 * i + 6 ≤ raw.length)
    (h0 : packetChecks raw (6 * i) = true) (h1 : packetChecks raw (6 * i + 3) = true) :
    measField raw i = (true, packetsWord raw (6 * i)) := by
  rw [measField_eq h, if_pos ⟨h0, h1⟩]

theorem measField_of_bad_packet {raw : List Byte} {i : Nat} (h : 6 * i + 6 ≤ raw.length)
    (hbad : packetChecks raw (6 * i) = false ∨ packetChecks raw (6 * i + 3) = false) :
    measField raw i = (false, 0) := by
  rw [measField_eq h, if_neg]
  rintro ⟨h0, h1⟩
  simp [h0, h1] at hbad

theorem measFrame_get (raw : List Byte) (i : Fin 10) : (measFrame raw).f.get i = (measField raw i.val).2 := by
  rw [measFrame, Vector.get_eq_getElem, Vector.getElem_ofFn]

/-! ### The section flags -/

/-- The ten fields one by one. -/
theorem forall_lt_ten {p : Nat → Prop} :
    (∀ i < 10, p i) ↔ p 0 ∧ p 1 ∧ p 2 ∧ p 3 ∧ p 4 ∧ p 5 ∧ p 6 ∧ p 7 ∧ p 8 ∧ p 9 := by
  simp only [Nat.forall_lt_succ_right, Nat.not_lt_zero, false_implies, implies_true, true_and, and_assoc]

section
variable (ok : Nat → Bool)

theorem sectionsOf_mass_iff : (sectionsOf ok).mass = true ↔ ∀ i < 10, sectionIndex i = 0 → ok i = true := by
  simp only [forall_lt_ten]
  simp [sectionsOf, sectionIndex, and_assoc]

theorem sectionsOf_count_iff : (sectionsOf ok).count = true ↔ ∀ i < 10, sectionIndex i = 1 → ok i = true := by
  simp only [forall_lt_ten]
  simp [sectionsOf, sectionIndex, and_assoc]

theorem sectionsOf_size_iff : (sectionsOf ok).size = true ↔ ∀ i < 10, sectionIndex i = 2 → ok i = true := by
  simp only [forall_lt_ten]
  simp [sectionsOf, sectionIndex]

end

/-- Field 9 is the whole of the third section (R30): if it alone is invalid, the other two sections are valid. -/
theorem sectionsOf_only_size_invalid {ok : Nat → Bool} (hok : ∀ i < 9, ok i = true) (h9 : ok 9 = false) :
    sectionsOf ok = ⟨true, true, false⟩ := by
  simp [sectionsOf, hok, h9]

theorem accepted_iff_eq_all (v : Sections) : v.accepted = true ↔ v = allSections :=
  ⟨accepted_eq_all, fun h => h ▸ rfl⟩

/-- Settles O36, field by field and section by section. -/
theorem measurementFieldWords : Obligations.MeasurementFieldWords := by
  intro raw hlen
  have hin : ∀ i : Fin 10, 6 * i.val + 6 ≤ raw.length := by omega
  refine ⟨fun i => ⟨fun ⟨h0, h1⟩ => ?_, fun hbad => ?_⟩, sectionsOf_mass_iff _, sectionsOf_count_iff _,
    sectionsOf_size_iff _, ?_⟩
  · rw [measFrame_get, measField_of_checks (hin i) h0 h1]
    exact ⟨rfl, packetsWord_toNat raw _⟩
  · rw [measFrame_get, measField_of_bad_packet (hin i) hbad]
    exact ⟨rfl, rfl⟩
  · exact (accepted_iff_eq_all _).symm.trans (measFrame_accepted_iff raw)

/-! ### A bad packet in the particle-size field -/

/-- If field 9 alone is invalid, one error is counted (R180). -/
theorem invalidFields_eq_one {raw : List Byte} (hok : ∀ i < 9, (measField raw i).1 = true)
    (h9 : (measField raw 9).1 = false) : invalidFields raw = 1 := by
  have hfirst : (List.range 9).countP (fun i => !(measField raw i).1) = 0 := by
    simpa [List.countP_eq_zero] using hok
  rw [invalidFields, List.range_succ, List.countP_append, hfirst]
  simp [h9]

/-- `READ_MEAS` on a response of 60 bytes: the invalid fields counted, `VALID` written, and an accepted frame delivered (R215). -/
theorem exec_readMeas_ok {s : State} {raw : List Byte} (hs : s.life = .ready) (hm : s.ss = .measuring)
    (hw : s.env.nextWrite = .ok) (hr : s.env.nextRead = .bytes raw) (hlen : raw.length = 60) :
    exec .readMeas s = finish (deliverFrame (if (measFrame raw).v.accepted then some (measFrame raw) else none) { s with
      errLast := counted 0 (invalidFields raw)
      errCum := counted s.errCum (invalidFields raw)
      valid := (measFrame raw).v
      env := s.env.exchanged s.params (encodeFrame s.params .readMeas 0) s.params.settle.readMeas 60 raw }) := by
  rw [exec_readMeas hm hs, measure_eq, checkedRead_ok .readMeas _ hw hr hlen, countFields_eq]
  rfl

/-- A response with an invalid field is rejected, and the window is not touched (R181, R201). -/
theorem exec_readMeas_rejected {s : State} {raw : List Byte} (hs : s.life = .ready) (hm : s.ss = .measuring)
    (hw : s.env.nextWrite = .ok) (hr : s.env.nextRead = .bytes raw) (hlen : raw.length = 60)
    (hbad : invalidFields raw ≠ 0) :
    exec .readMeas s = .next { s with
      errLast := counted 0 (invalidFields raw)
      errCum := counted s.errCum (invalidFields raw)
      valid := (measFrame raw).v
      env := s.env.exchanged s.params (encodeFrame s.params .readMeas 0) s.params.settle.readMeas 60 raw
      results := s.results ++ [.noFrame .rejected] } := by
  have hrej : ¬ (measFrame raw).v.accepted = true := fun hacc => hbad ((measFrame_accepted_iff raw).mp hacc)
  rw [exec_readMeas_ok hs hm hw hr hlen, if_neg hrej]
  rfl

/-- Settles O37: the bad packet makes field 9 invalid, and no other field holds it. -/
theorem sectionIndependence : Obligations.SectionIndependence := by
  intro s raw b hs hm hw hr hlen hb hbad hgood
  have hfields : ∀ i < 9, (measField raw i).1 = true := by
    intro i hi
    have hfirst : 3 * (2 * i) = 6 * i := by omega
    have hsecond : 3 * (2 * i + 1) = 6 * i + 3 := by omega
    have h0 : packetChecks raw (6 * i) = true := hfirst ▸ hgood (2 * i) (by omega) (by omega)
    have h1 : packetChecks raw (6 * i + 3) = true := hsecond ▸ hgood (2 * i + 1) (by omega) (by omega)
    rw [measField_of_checks (by omega) h0 h1]
  have hfield9 : (measField raw 9).1 = false := by
    have hbad9 : packetChecks raw (6 * 9) = false ∨ packetChecks raw (6 * 9 + 3) = false := by
      rcases hb with rfl | rfl
      · exact .inl hbad
      · exact .inr hbad
    rw [measField_of_bad_packet (by omega) hbad9]
  have hone : invalidFields raw = 1 := invalidFields_eq_one hfields hfield9
  refine ⟨_, exec_readMeas_rejected hs hm hw hr hlen (by omega), sectionsOf_only_size_invalid hfields hfield9, ?_, rfl, rfl⟩
  rw [hone]
  rfl

end Sys2Proof.Machine
end

section
/-! The statements of the Rolling Aggregator (spec/45_rolling_aggregator.md): setting the window size (R199, R200), and what
the window holds after any sequence of pushes (R192, R193). -/

namespace Sys2Proof.Machine

/-! ### Setting the window size -/

/-- A size is refused exactly if it is 0 or above `NMAX` (R200). -/
theorem windowIllegal_iff (p : Params) (n : Nat) : WindowIllegal p n ↔ n = 0 ∨ nmax p < n := by
  rw [WindowIllegal, Nat.lt_one_iff]

/-- Settles O33: a legal size is written with an empty window, another is refused before the write. -/
theorem setWindowResult : Obligations.SetWindowResult := by
  intro n s hs
  constructor
  · intro hpos hmax
    have hlegal : ¬ WindowIllegal s.params n := (not_windowIllegal_iff s.params n).mpr ⟨hpos, hmax⟩
    rw [exec_setWindow n hs, if_neg hlegal]
    rfl
  · intro hrange
    have hillegal : WindowIllegal s.params n := (windowIllegal_iff s.params n).mpr hrange
    rw [exec_setWindow n hs, if_pos hillegal]
    rfl

/-! ### The last `n` frames: `List.rtake n`, all of the list while it is shorter -/

theorem rtake_of_length_le {frames : List Frame} {n : Nat} (h : frames.length ≤ n) : frames.rtake n = frames := by
  rw [List.rtake, Nat.sub_eq_zero_of_le h, List.drop_zero]

theorem length_rtake {frames : List Frame} {n : Nat} (h : n ≤ frames.length) : (frames.rtake n).length = n := by
  rw [List.rtake, List.length_drop, Nat.sub_sub_self h]

/-- The oldest of the last `n + 1` frames is the one that is not among the last `n`. -/
theorem drop_one_rtake_succ {frames : List Frame} {n : Nat} (h : n < frames.length) :
    (frames.rtake (n + 1)).drop 1 = frames.rtake n := by
  rw [List.rtake, List.drop_drop, List.rtake, show frames.length - (n + 1) + 1 = frames.length - n by omega]

/-- A push takes the last `n + 1` frames so far to the last `n + 1` with the new one: it appends while there is room (R192),
and then evicts the oldest (R193). -/
theorem pushWindow_rtake (n : Nat) (f : Frame) (frames : List Frame) :
    pushWindow (n + 1) f (frames.rtake (n + 1)) = (frames ++ [f]).rtake (n + 1) := by
  rw [List.rtake_concat_succ]
  rcases Nat.lt_or_ge frames.length (n + 1) with hroom | hfull
  · rw [rtake_of_length_le hroom.le, rtake_of_length_le (Nat.le_of_lt_succ hroom), pushWindow_room hroom]
  · rw [pushWindow_full (length_rtake hfull) n.succ_ne_zero, drop_one_rtake_succ hfull]

/-- Pushing frames in order into an empty window leaves the last `N` of them (R192, R193). -/
theorem foldl_pushWindow (n : Nat) (frames : List Frame) :
    frames.foldl (fun w f => pushWindow (n + 1) f w) [] = frames.rtake (n + 1) := by
  induction frames using List.reverseRecOn with
  | nil => rw [List.foldl_nil, List.rtake_nil]
  | append_singleton frames f ih => rw [List.foldl_concat, ih, pushWindow_rtake]

/-- Settles O39, by induction on the frames in arrival order: each push keeps the window at the last `n`. -/
theorem windowHoldsLastFrames : Obligations.WindowHoldsLastFrames := by
  intro n frames hn
  obtain ⟨m, rfl⟩ : ∃ m, n = m + 1 := ⟨n - 1, by omega⟩
  exact foldl_pushWindow m frames

end Sys2Proof.Machine
end

section
/-! The statements of the session operations (spec/46_session_operations.md): the prologue (R210), `INIT` (R211), the commands
that only write their frame (R212, R213, R216 to R218, R220, R225, R226), and the decoded status flags (R235). -/

namespace Sys2Proof.Machine

/-! ### The prologue -/

theorem prologue_fatal (op : Operation) {s : State} (hs : s.life = .fatal) :
    prologue op s = some (.busResetFatal .sticky) := by
  rw [prologue, hs]

theorem prologue_uninit {op : Operation} (ho : op ≠ .init) {s : State} (hs : s.life = .uninit) :
    prologue op s = some (.notReady op.opsel) := by
  simp only [prologue, hs, if_neg ho]

theorem prologue_init_ready {s : State} (hs : s.life = .ready) :
    prologue .init s = some (.illegalState .init (.life .ready)) := by
  simp only [prologue, hs, if_true]

/-- `INIT` is the operation of no other instruction. -/
theorem operation_ne_init {i : Instr} (hi : ∀ n, i ≠ .init n) : i.operation ≠ .init := by
  cases i with
  | init n => exact absurd rfl (hi n)
  | _ => exact nofun

/-- A request whose selector names no operation is refused, with the move taken (R91). -/
theorem step_unknown {s : State} {r : Request} {ms : List HostMove} (hm : s.moves = .operation r :: ms)
    (hr : 18 ≤ r.opsel.toNat) : step s = rejectUnknown r.opsel (s.setMoves ms) := by
  simp only [step, hm, runMove, runRequest, decode_unknown hr]

theorem rejectUnknown_fatal (opsel : BitVec 5) {s : State} (hs : s.life = .fatal) :
    rejectUnknown opsel s = .next (s.deliver (.err (.busResetFatal .sticky))) := by
  simp only [rejectUnknown, hs, raise_eq, finish_raised]

theorem rejectUnknown_noFault (opsel : BitVec 5) {s : State} (hs : s.NoFault) :
    rejectUnknown opsel s = .next (s.deliver (.err (.unknownOp opsel))) := by
  cases hl : s.life with
  | fatal => exact absurd hl hs
  | uninit | ready => simp only [rejectUnknown, hl, raise_eq, finish_raised]

/-- Settles O5: three refusals are the prologue's, the fourth is the decoder's. -/
theorem prologueRefusals : Obligations.PrologueRefusals := by
  refine ⟨fun i s hs => exec_prologue (prologue_fatal i.operation hs),
    fun i s hs hi => exec_prologue (prologue_uninit (operation_ne_init hi) hs),
    fun n s hs => exec_prologue (i := .init n) (prologue_init_ready hs), fun s r ms hm hr => ?_⟩
  rw [step_unknown hm hr]
  exact ⟨fun hs => rejectUnknown_fatal r.opsel hs, fun hs => rejectUnknown_noFault r.opsel hs⟩

/-- Settles O32: the argument is tested, then the device is probed, then the session is made. -/
theorem initResult : Obligations.InitResult := by
  intro n s hs
  rw [exec_init n hs]
  refine ⟨fun hrange => ?_, fun hpos hmax hp => ?_, fun hpos hmax hp => ?_⟩
  · rw [if_pos ((windowIllegal_iff s.params n).mpr hrange)]
    rfl
  · rw [if_neg ((not_windowIllegal_iff s.params n).mpr ⟨hpos, hmax⟩), hp]
    rfl
  · rw [if_neg ((not_windowIllegal_iff s.params n).mpr ⟨hpos, hmax⟩), hp]
    rfl

/-! ### Commands that only write their frame -/

/-- The frame of `START_MEAS` carries `START_ARG` (R122, R124). -/
theorem encodeFrame_startMeas (p : Params) (v : Word) : encodeFrame p .startMeas v =
    [p.opcode.startMeas.first, p.opcode.startMeas.second, p.startArg.first, p.startArg.second,
      checksum p.startArg.first p.startArg.second] :=
  encoderFrames p .startMeas v

/-- The frame of `WRITE_AUTOCLEAN` carries the interval, low half first (R123, R124). -/
theorem encodeFrame_writeAutoclean (p : Params) (v : Word) : encodeFrame p .writeAutoclean v =
    [p.opcode.writeAutoclean.first, p.opcode.writeAutoclean.second,
      BitVec.ofNat 8 (v.toNat / 2 ^ 8), BitVec.ofNat 8 v.toNat,
      checksum (BitVec.ofNat 8 (v.toNat / 2 ^ 8)) (BitVec.ofNat 8 v.toNat),
      BitVec.ofNat 8 (v.toNat / 2 ^ 24), BitVec.ofNat 8 (v.toNat / 2 ^ 16),
      checksum (BitVec.ofNat 8 (v.toNat / 2 ^ 24)) (BitVec.ofNat 8 (v.toNat / 2 ^ 16))] :=
  encoderFrames p .writeAutoclean v

/-- Settles O25: the session state decides, and a successful write is followed by the mode change. -/
theorem startMeasResult : Obligations.StartMeasResult := by
  refine fun s hs => ⟨fun hss => exec_illegal (i := .startMeas) rfl (beq_eq_false_iff_ne.mpr hss) hs, fun hss hw => ?_⟩
  rw [← encodeFrame_startMeas s.params 0]
  exact exec_write_ok (i := .startMeas) rfl hs hw rfl (beq_iff_eq.mpr hss)

/-- Settles O26, as O25. -/
theorem stopMeasResult : Obligations.StopMeasResult := fun _ hs =>
  ⟨fun hss => exec_illegal (i := .stopMeas) rfl (beq_eq_false_iff_ne.mpr hss) hs,
    fun hss hw => exec_write_ok (i := .stopMeas) rfl hs hw rfl (beq_iff_eq.mpr hss)⟩

/-- Settles O27: refused in `Sleeping` alone. -/
theorem sleepResult : Obligations.SleepResult := by
  refine fun s hs => ⟨fun hss => ?_, fun hss hw => exec_write_ok (i := .sleep) rfl hs hw rfl (bne_iff_ne.mpr hss)⟩
  rw [← hss]
  exact exec_illegal (i := .sleep) rfl (bne_eq_false_iff_eq.mpr hss) hs

/-- Settles O28, as O25. -/
theorem wakeupResult : Obligations.WakeupResult := fun _ hs =>
  ⟨fun hss => exec_illegal (i := .wakeup) rfl (beq_eq_false_iff_ne.mpr hss) hs,
    fun hss hw => exec_write_ok (i := .wakeup) rfl hs hw rfl (beq_iff_eq.mpr hss)⟩

/-- Settles O29: `RESET` is legal in every session state. -/
theorem resetCommandResult : Obligations.ResetCommandResult := fun _ hs hw =>
  exec_write_ok (i := .reset) rfl hs hw rfl rfl

/-- Settles O31: after the write these commands change nothing (`writtenState`). -/
theorem writeOnlyResults : Obligations.WriteOnlyResults := by
  refine fun s v hs hw => ⟨exec_write_ok (i := .startFanClean) rfl hs hw rfl rfl,
    exec_write_ok (i := .clearStatus) rfl hs hw rfl rfl, ?_⟩
  rw [← encodeFrame_writeAutoclean s.params v]
  exact exec_write_ok (i := .writeAutoclean v) rfl hs hw rfl rfl

/-! ### The status flags -/

/-- Bit `k` of a word, counted from the least significant, as a number (R7). -/
theorem getLsbD_eq_decide (w : Word) (k : Nat) : w.getLsbD k = decide (w.toNat / 2 ^ k % 2 = 1) := by
  rw [BitVec.getLsbD, Nat.testBit_eq_decide_div_mod_eq]

/-- Settles O51: each flag is its bit, and the two words are evaluated at the default positions. -/
theorem statusFlagBits : Obligations.StatusFlagBits := by
  refine ⟨fun p w => ⟨getLsbD_eq_decide w _, getLsbD_eq_decide w _, getLsbD_eq_decide w _⟩, fun p hspeed hlaser hfan => ?_⟩
  rw [statusFlags, statusFlags, hspeed, hlaser, hfan]
  decide

end Sys2Proof.Machine
end

section
/-! The statements of the reading commands on a response of the right length (spec/46_session_operations.md R214, R215, R219,
R221 to R224). A single-field read has two outcomes, by whether its packets check; `READ_MEAS` rejects its frame or delivers
it, and then the window decides which of three results it gives. -/

namespace Sys2Proof.Machine

/-! ### The two outcomes of a single-field read -/

theorem fieldData_zero_eq {raw : List Byte} {k : Nat} (hlen : raw.length = 3 * k) : fieldData raw 0 k =
    if ∀ j < k, packetChecks raw (3 * j) = true then some (fieldBytes raw 0 k) else none := by
  simpa using fieldData_eq (off := 0) (by omega : 0 + 3 * k ≤ raw.length)

section
variable {i : Instr} {cmd : BusCommand} {s : State} {raw : List Byte} (hc : busCommandOf i = some cmd)
  (hf : singleFieldRead cmd = true) (hs : s.life = .ready) (hw : s.env.nextWrite = .ok)
  (hr : s.env.nextRead = .bytes raw) (hlen : raw.length = rlen cmd)
include hc hf hs hw hr hlen

/-- All packets check: the data bytes are the result's, and no error is counted. -/
theorem exec_readField_valid (h : ∀ j < packetCount cmd, packetChecks raw (3 * j) = true) :
    exec i s = .next { s with
      errLast := 0
      env := s.env.exchanged s.params (encodeFrame s.params cmd 0) (perCommand s.params.settle cmd) (rlen cmd) raw
      results := s.results ++ [fieldResult cmd (some (fieldBytes raw 0 (packetCount cmd)))] } := by
  have hdata : fieldData raw 0 (packetCount cmd) = some (fieldBytes raw 0 (packetCount cmd)) := by
    rw [fieldData_zero_eq hlen, if_pos h]
  have hcount : invalidCount raw (packetCount cmd) = 0 := by
    rw [invalidCount, hdata]
    rfl
  rw [exec_readField_ok hc hs hw hf hr hlen, hdata, hcount, State.attempted_zero]
  rfl

/-- A packet does not check: no data, and one error is counted (R146). -/
theorem exec_readField_invalid (h : ¬ ∀ j < packetCount cmd, packetChecks raw (3 * j) = true) :
    exec i s = .next { s with
      errLast := 1
      errCum := counted s.errCum 1
      env := s.env.exchanged s.params (encodeFrame s.params cmd 0) (perCommand s.params.settle cmd) (rlen cmd) raw
      results := s.results ++ [fieldResult cmd none] } := by
  have hdata : fieldData raw 0 (packetCount cmd) = none := by
    rw [fieldData_zero_eq hlen, if_neg h]
  have hcount : invalidCount raw (packetCount cmd) = 1 := by
    rw [invalidCount, hdata]
    rfl
  rw [exec_readField_ok hc hs hw hf hr hlen, hdata, hcount]
  rfl

end

/-! ### Responses of one and of two packets -/

theorem packetChecks_one_iff (d0 d1 c : Byte) :
    (∀ j < 1, packetChecks [d0, d1, c] (3 * j) = true) ↔ checksum d0 d1 = c := by
  simp only [Nat.forall_lt_succ_right, Nat.not_lt_zero, false_implies, implies_true, true_and]
  exact packetOk_iff

theorem packetChecks_two_iff (d0 d1 c0 d2 d3 c1 : Byte) :
    (∀ j < 2, packetChecks [d0, d1, c0, d2, d3, c1] (3 * j) = true) ↔ checksum d0 d1 = c0 ∧ checksum d2 d3 = c1 := by
  simp only [Nat.forall_lt_succ_right, Nat.not_lt_zero, false_implies, implies_true, true_and]
  exact and_congr packetOk_iff packetOk_iff

theorem w16_eq_ofNat (d0 d1 : Byte) : w16 d0 d1 = BitVec.ofNat 16 (256 * d0.toNat + d1.toNat) := by
  rw [← w16_toNat, BitVec.ofNat_toNat, BitVec.setWidth_eq]

/-- Four bytes, the most significant first (R61). -/
theorem w32be_eq_ofNat (d0 d1 d2 d3 : Byte) : w32be (w16 d0 d1) (w16 d2 d3) =
    BitVec.ofNat 32 (2 ^ 24 * d0.toNat + 2 ^ 16 * d1.toNat + 2 ^ 8 * d2.toNat + d3.toNat) := by
  apply BitVec.eq_of_toNat_eq
  rw [w32be_toNat, w16_toNat, w16_toNat, BitVec.toNat_ofNat]
  omega

/-! ### The single-field reads -/

/-- Settles O19: the packet checks or not, for both commands alike. -/
theorem readWord16Results : Obligations.ReadWord16Results := by
  intro s d0 d1 c hs hw hr
  rw [← w16_eq_ofNat]
  refine ⟨fun hok => ?_, fun hbad => ?_⟩
  · have hall := (packetChecks_one_iff d0 d1 c).mpr hok
    exact ⟨exec_readField_valid (i := .readDataReady) rfl rfl hs hw hr rfl hall,
      exec_readField_valid (i := .readFwVersion) rfl rfl hs hw hr rfl hall⟩
  · have hnot := (packetChecks_one_iff d0 d1 c).not.mpr hbad
    exact ⟨exec_readField_invalid (i := .readDataReady) rfl rfl hs hw hr rfl hnot,
      exec_readField_invalid (i := .readFwVersion) rfl rfl hs hw hr rfl hnot⟩

/-- Settles O20: the status word has the first packet high, the auto-clean interval the second. -/
theorem readWord32Results : Obligations.ReadWord32Results := by
  intro s d0 d1 c0 d2 d3 c1 hs hw hr
  rw [← w32be_eq_ofNat, ← w32be_eq_ofNat]
  refine ⟨fun hok => ?_, fun hbad => ?_⟩
  · have hall := (packetChecks_two_iff d0 d1 c0 d2 d3 c1).mpr hok
    exact ⟨exec_readField_valid (i := .readAutoclean) rfl rfl hs hw hr rfl hall,
      exec_readField_valid (i := .readStatus) rfl rfl hs hw hr rfl hall⟩
  · have hnot := (packetChecks_two_iff d0 d1 c0 d2 d3 c1).not.mpr (not_and_or.mpr hbad)
    exact ⟨exec_readField_invalid (i := .readAutoclean) rfl rfl hs hw hr rfl hnot,
      exec_readField_invalid (i := .readStatus) rfl rfl hs hw hr rfl hnot⟩

theorem fieldBytes_zero_eq (raw : List Byte) (k : Nat) :
    fieldBytes raw 0 k = (List.range k).flatMap fun j => [raw.getD (3 * j) 0, raw.getD (3 * j + 1) 0] := by
  simp only [fieldBytes, Nat.zero_add]

theorem not_forall_packetChecks {raw : List Byte} {k : Nat} (h : ∃ j < k, packetChecks raw (3 * j) = false) :
    ¬ ∀ j < k, packetChecks raw (3 * j) = true := by
  obtain ⟨j, hj, hbad⟩ := h
  exact fun hall => Bool.false_ne_true (hbad.symm.trans (hall j hj))

/-- Settles O21: all packets of the text check or not, for both lengths alike. -/
theorem readTextResults : Obligations.ReadTextResults := by
  intro s raw hs hw hr
  rw [← fieldBytes_zero_eq, ← fieldBytes_zero_eq]
  exact ⟨fun hlen hall => exec_readField_valid (i := .readProductType) rfl rfl hs hw hr hlen hall,
    fun hlen hbad => exec_readField_invalid (i := .readProductType) rfl rfl hs hw hr hlen (not_forall_packetChecks hbad),
    fun hlen hall => exec_readField_valid (i := .readSerial) rfl rfl hs hw hr hlen hall,
    fun hlen hbad => exec_readField_invalid (i := .readSerial) rfl rfl hs hw hr hlen (not_forall_packetChecks hbad)⟩

/-! ### The measurement -/

section
variable {s : State} (f : Frame)

/-- A window of one frame is passed through (R191). -/
theorem deliverFrame_passThrough (hn : s.winN = 1) : deliverFrame (some f) s = .done (.frameOut f) s := by
  simp only [deliverFrame, aggPush, if_pos hn]

/-- A push that does not fill the window (R194). -/
theorem deliverFrame_filling (hn : s.winN ≠ 1) (hlen : (pushWindow s.winN f s.wbuf).length ≠ s.winN) :
    deliverFrame (some f) s = .done (.noFrame .filling) (s.setWbuf (pushWindow s.winN f s.wbuf)) := by
  simp only [deliverFrame, aggPush, if_neg hn, if_neg hlen]

/-- A push that leaves the window full (R194, R195). -/
theorem deliverFrame_mean (hn : s.winN ≠ 1) (hlen : (pushWindow s.winN f s.wbuf).length = s.winN) :
    deliverFrame (some f) s = .done (.frameOut (meanFrame s.params.meanArith (pushWindow s.winN f s.wbuf)))
      (s.setWbuf (pushWindow s.winN f s.wbuf)) := by
  simp only [deliverFrame, aggPush, if_neg hn, if_pos hlen]

end

/-- Settles O35: a frame with an invalid field is rejected, another is delivered as the window decides. -/
theorem readMeasResult : Obligations.ReadMeasResult := by
  intro s raw hs hm hw hr hlen base
  have haccepted : invalidFields raw = 0 → exec .readMeas s = finish (deliverFrame (some (measFrame raw)) base) := by
    intro hvalid
    rw [exec_readMeas_ok hs hm hw hr hlen, if_pos ((measFrame_accepted_iff raw).mpr hvalid)]
    rfl
  have hmean : ∀ w, pushWindow s.winN (measFrame raw) s.wbuf = w → invalidFields raw = 0 → s.winN ≠ 1 →
      w.length = s.winN → ∃ m, IsMeanFrame s.params.meanArith w m ∧ exec .readMeas s = .next { base with
        wbuf := w, results := s.results ++ [.frameOut m] } := by
    rintro w rfl hvalid hn hfull
    refine ⟨_, isMeanFrame_meanFrame _ _, ?_⟩
    rw [haccepted hvalid, deliverFrame_mean (s := base) _ hn hfull]
    rfl
  refine ⟨fun hbad => exec_readMeas_rejected hs hm hw hr hlen hbad, fun hvalid hn => ?_, fun hvalid hn hroom => ?_,
    fun hvalid hn hlast => ?_, fun hvalid hn hne hfull => ?_⟩
  · rw [haccepted hvalid, deliverFrame_passThrough (s := base) _ hn]
    rfl
  · have hpush : pushWindow s.winN (measFrame raw) s.wbuf = s.wbuf ++ [measFrame raw] := pushWindow_room (by omega) _
    have hnotFull : (pushWindow s.winN (measFrame raw) s.wbuf).length ≠ s.winN := by
      rw [hpush, List.length_append, List.length_singleton]
      omega
    rw [haccepted hvalid, deliverFrame_filling (s := base) _ hn hnotFull, ← hpush]
    rfl
  · exact hmean _ (pushWindow_room (by omega) _) hvalid hn (by simpa using hlast)
  · have hwinN : s.winN ≠ 0 := fun h0 => hne (List.length_eq_zero_iff.mp (hfull.trans h0))
    exact hmean _ (pushWindow_full hfull hwinN _) hvalid hn (by simp; omega)

end Sys2Proof.Machine
end

section
/-! The statements of `DEVICE_INFO` (spec/46_session_operations.md R228). Its five reads are a chain (`readChain`): the reads
that get their responses move the state on (`State.afterReads`), and the chain then stands before the next read, which may end
it, or before the record. -/

namespace Sys2Proof.Machine

/-! ### Reads one after the other -/

/-- Reading commands one after the other in a session that is up, up to the first that ends in an `Err`; `k` takes the verdicts
on their fields, in order (R228). -/
def readChain {α : Type} : List BusCommand → (List (Option (List Byte)) → State → Ran α) → State → Ran α
  | [], k, s => k [] s
  | cmd :: cmds, k, s => (readField cmd s).andThen fun r u => readChain cmds (fun rs => k (r :: rs)) u

/-- The record of `DEVICE_INFO` from the verdicts on its five fields, in the order of `infoCommands` (R228). -/
def infoRecord (rs : List (Option (List Byte))) (s : State) : InfoRecord where
  productType := asBytes (rs.getD 0 none)
  serial := asBytes (rs.getD 1 none)
  firmware := asWord16 (rs.getD 2 none)
  autocleanSeconds := asWord32LEH (rs.getD 3 none)
  status := asWord32BE (rs.getD 4 none)
  statusFlags := statusFlags s.params (asWord32BE (rs.getD 4 none)).2
  measuring := s.measuring
  errCum := s.errCum
  errLast := s.errLast
  valid := s.valid
  winN := s.winN

/-- The last statement of `DEVICE_INFO`: the record is its result (R228). -/
def deliverInfo (rs : List (Option (List Byte))) (s : State) : Ran Result := .done (.infoOut (infoRecord rs s)) s

/-- A read that goes on leaves the session up, so the prologue of the next read lets it through (R210). -/
theorem guardedRead_andThen_congr {α β : Type} {op : Operation} (ho : op ≠ .init) {s : State} (hs : s.life = .ready)
    {cmd : BusCommand} {f : Option (List Byte) → α} {k : α → State → Ran β} {k' : Option (List Byte) → State → Ran β}
    (hk : ∀ r u, u.life = .ready → k (f r) u = k' r u) :
    (guarded op s fun s => (readField cmd s).andThen fun r s => .done (f r) s).andThen k =
      (readField cmd s).andThen k' := by
  rw [guardedRead_andThen ho hs]
  rcases readField_cases cmd s with ⟨_, _, _, _, h⟩ | ⟨_, _, _, _, h⟩ | ⟨_, h⟩ | ⟨_, _, h⟩ <;> rw [h]
  · exact hk _ _ hs
  · rfl
  · rfl
  · rfl

/-- In a session that is up, `DEVICE_INFO` is the chain of its five reads and then the record. -/
theorem exec_deviceInfo_eq_readChain {s : State} (hs : s.life = .ready) : exec .deviceInfo s =
    finish (readChain infoCommands deliverInfo s) := by
  rw [exec_deviceInfo hs]
  refine congrArg finish ?_
  refine guardedRead_andThen_congr (op := .readProductType) (by decide) hs fun _ u hu => ?_
  refine guardedRead_andThen_congr (op := .readSerial) (by decide) hu fun _ u hu => ?_
  refine guardedRead_andThen_congr (op := .readFwVersion) (by decide) hu fun _ u hu => ?_
  refine guardedRead_andThen_congr (op := .readAutoclean) (by decide) hu fun _ u hu => ?_
  exact guardedRead_andThen_congr (op := .readStatus) (by decide) hu fun _ _ _ => rfl

/-! ### Reads that get their responses -/

/-- The state after a read whose response has the right length: the exchange is made, and an invalid field is counted. -/
def State.afterRead (s : State) (x : BusCommand × List Byte) : State :=
  (s.attempted (invalidCount x.2 (packetCount x.1))).setEnv
    (s.env.exchanged s.params (encodeFrame s.params x.1 0) (perCommand s.params.settle x.1) (rlen x.1) x.2)

/-- The state after such reads, one after the other. -/
def State.afterReads (s : State) (done : List (BusCommand × List Byte)) : State := done.foldl State.afterRead s

@[simp] theorem State.afterReads_nil (s : State) : s.afterReads [] = s := rfl

@[simp] theorem State.afterReads_cons (s : State) (x : BusCommand × List Byte) (done : List (BusCommand × List Byte)) :
    s.afterReads (x :: done) = (s.afterRead x).afterReads done := rfl

/-- The environment lets the writes of these reads succeed and gives each its response, of the command's length. -/
def Env.Serves (e : Env) (done : List (BusCommand × List Byte)) : Prop :=
  ∀ j x, done[j]? = some x → (Answers.skip j e.writes).next Config.freeWrite = .ok ∧
    (Answers.skip j e.reads).next Config.freeRead = .bytes x.2 ∧ x.2.length = rlen x.1

section
variable {s : State} {x : BusCommand × List Byte} {done : List (BusCommand × List Byte)}

/-- The first read goes on with its field. -/
theorem readField_of_serves (h : s.env.Serves (x :: done)) :
    readField x.1 s = .done (fieldData x.2 0 (packetCount x.1)) (s.afterRead x) := by
  obtain ⟨hw, hr, hlen⟩ := h 0 x rfl
  exact readField_ok hw hr hlen

/-- After the first read the environment serves the others: one answer to a write and one to a read are used up. -/
theorem Env.Serves.tail (h : s.env.Serves (x :: done)) : (s.afterRead x).env.Serves done :=
  fun j y hy => h (j + 1) y hy

end

/-- The chain after reads that got their responses. -/
theorem readChain_of_serves {α : Type} {done : List (BusCommand × List Byte)} (cmds : List BusCommand)
    (k : List (Option (List Byte)) → State → Ran α) {s : State} (h : s.env.Serves done) :
    readChain (done.map Prod.fst ++ cmds) k s = readChain cmds
      (fun rs => k (done.map (fun x => fieldData x.2 0 (packetCount x.1)) ++ rs)) (s.afterReads done) := by
  induction done generalizing s k with
  | nil => rfl
  | cons x done ih =>
    calc readChain ((x :: done).map Prod.fst ++ cmds) k s
      _ = readChain (done.map Prod.fst ++ cmds) (fun rs => k (fieldData x.2 0 (packetCount x.1) :: rs))
          (s.afterRead x) := by
        rw [List.map_cons, List.cons_append, readChain, readField_of_serves h, Ran.andThen_done]
      _ = _ := ih _ h.tail

/-- What reads that got their responses change, all but `ERR_LAST` in closed form: the calls are their exchanges in order, and
`ERR_CUM` has grown by their invalid fields. -/
theorem State.afterReads_eq (s : State) (done : List (BusCommand × List Byte)) : s.afterReads done = { s with
    errCum := counted s.errCum (done.map fun x => invalidCount x.2 (packetCount x.1)).sum
    errLast := (s.afterReads done).errLast
    env := { s.env with
      writes := Answers.skip done.length s.env.writes
      reads := Answers.skip done.length s.env.reads
      calls := s.env.calls ++ done.flatMap fun x => exchangeCalls s.params x.1 x.2 } } := by
  induction done generalizing s with
  | nil => simp [Answers.skip]
  | cons x done ih =>
    refine (ih (s.afterRead x)).trans ?_
    simp [State.afterRead, State.attempted, State.setEnv, Env.exchanged, exchangeCalls, Answers.skip]

theorem Answers.rest_skip {α : Type} (k : Nat) (a : Answers α) : (Answers.skip k a).rest = Answers.skip (k + 1) a := by
  induction k generalizing a with
  | zero => rfl
  | succ k ih => exact ih a.rest

/-! ### The statements -/

/-- The five reads of `DEVICE_INFO` with the responses they get. -/
def infoReads (pt sn fw ac st : List Byte) : List (BusCommand × List Byte) :=
  [(.readProductType, pt), (.readSerial, sn), (.readFwVersion, fw), (.readAutoclean, ac), (.readStatus, st)]

/-- `ERR_LAST` is that of the status read, the last of the five (R26, R232). -/
theorem State.afterReads_infoReads_errLast (s : State) (pt sn fw ac st : List Byte) :
    (s.afterReads (infoReads pt sn fw ac st)).errLast = counted 0 (invalidCount st 2) := rfl

/-- `DEVICE_INFO` when all five reads get their responses: the record is made of their fields. -/
theorem exec_deviceInfo_of_serves {s : State} (hs : s.life = .ready) {pt sn fw ac st : List Byte}
    (h : s.env.Serves (infoReads pt sn fw ac st)) :
    exec .deviceInfo s = .next ((s.afterReads (infoReads pt sn fw ac st)).deliver (.infoOut (infoRecord
      [fieldData pt 0 4, fieldData sn 0 16, fieldData fw 0 1, fieldData ac 0 2, fieldData st 0 2]
      (s.afterReads (infoReads pt sn fw ac st))))) :=
  (exec_deviceInfo_eq_readChain hs).trans (congrArg finish (readChain_of_serves [] deliverInfo h))

/-- Settles O48: the environment serves the five reads one by one. -/
theorem deviceInfoResult : Obligations.DeviceInfoResult := by
  intro s pt sn fw ac st hs hw hpt hsn hfw hac hst lpt lsn lfw lac lst p cum last exchange
  have hserves : s.env.Serves (infoReads pt sn fw ac st) := by
    intro j x hx
    match j, hx with
    | 0, rfl => exact ⟨hw 0 (by decide), hpt, lpt⟩
    | 1, rfl => exact ⟨hw 1 (by decide), hsn, lsn⟩
    | 2, rfl => exact ⟨hw 2 (by decide), hfw, lfw⟩
    | 3, rfl => exact ⟨hw 3 (by decide), hac, lac⟩
    | 4, rfl => exact ⟨hw 4 (by decide), hst, lst⟩
  rw [exec_deviceInfo_of_serves hs hserves, State.afterReads_eq, State.afterReads_infoReads_errLast]
  simp only [cum, Nat.add_assoc, List.append_assoc]
  rfl

/-- Settles O49: the chain stands before the read of `cmd`, which ends it, in the state after the reads done. -/
theorem deviceInfoStopsAtFirstErr : Obligations.DeviceInfoStopsAtFirstErr := by
  intro s done cmd rest hs hcmds hserves p k write read q calls base
  have hchain : exec .deviceInfo s = finish ((readField cmd (s.afterReads done)).andThen fun r =>
      readChain rest fun rs => deliverInfo (done.map (fun x => fieldData x.2 0 (packetCount x.1)) ++ r :: rs)) := by
    rw [exec_deviceInfo_eq_readChain hs, hcmds, readChain_of_serves _ _ hserves, readChain]
  rw [readField_andThen_eq, State.afterReads_eq] at hchain
  rw [hchain]
  refine ⟨fun hw => ?_, fun hw hr => ?_, fun raw hw hr hlen => ?_⟩
  · rw [checkedRead_writeFail cmd _ (by exact hw), finish_raised, ← Answers.rest_skip, ← hs]
    rfl
  · rw [checkedRead_readFail cmd _ (by exact hw) (by exact hr), finish_raised, ← Answers.rest_skip, ← Answers.rest_skip, ← hs]
    rfl
  · rw [checkedRead_badLength cmd _ (by exact hw) (by exact hr) hlen, finish_raised, ← Answers.rest_skip, ← Answers.rest_skip]
    rfl

end Sys2Proof.Machine
end

section
/-! What an instruction leaves unchanged whatever it answers, and the one result it returns (spec/46_session_operations.md R214
to R228, R230, R234). Each instruction completes (`State.Completes`) with a result that fits it, from a state that one of the
kinds of R90 allows: a write-only command, a read, the measurement, a local operation. -/

namespace Sys2Proof.Machine

/-! ### Completion -/

/-- What lies outside the block and is no Transport call: the parameters, the host's further moves, the results it holds. -/
def State.outside (s : State) : Params × List HostMove × List Result := (s.params, s.moves, s.results)

/-- The value of a body that went on is as `Q` says. -/
def Ran.Returns {α : Type} (Q : α → Prop) : Ran α → Prop
  | .done a _ => Q a
  | .raised _ _ => True

theorem Ran.Returns.andThen {α β : Type} {Q : β → Prop} (r : Ran α) {k : α → State → Ran β}
    (hk : ∀ a u, (k a u).Returns Q) : (r.andThen k).Returns Q := by
  cases r with
  | done a u => exact hk a u
  | raised e u => exact trivial

/-- Run on `s`, the instruction delivers one result, an `Err` or one that fits it, from a state in which `P` holds. -/
def State.Completes (s : State) (i : Instr) (P : State → Prop) : Prop :=
  ∃ u v, exec i s = .next (u.deliver v) ∧ ((∃ e, v = .err e) ∨ resultFits i v) ∧ P u

namespace State.Completes
variable {s t : State} {i : Instr} {P Q : State → Prop}

theorem imp (h : s.Completes i P) (hPQ : ∀ u, P u → Q u) : s.Completes i Q := by
  obtain ⟨u, v, he, hv, hu⟩ := h
  exact ⟨u, v, he, hv, hPQ u hu⟩

theorem of_err {u : State} {e : Error} (he : exec i s = .next (u.deliver (.err e))) (hu : P u) : s.Completes i P :=
  ⟨u, .err e, he, .inl ⟨e, rfl⟩, hu⟩

theorem of_finish {r : Ran Result} (he : exec i s = finish r) (hr : r.Leaves P) (hv : r.Returns (resultFits i)) :
    s.Completes i P := by
  cases r with
  | done v u => exact ⟨u, v, he, .inr hv, hr⟩
  | raised e u => exact of_err he hr

/-- The next state is the one it says. -/
theorem of_next (h : s.Completes i P) (he : exec i s = .next t) : ∃ u v, t = u.deliver v ∧ P u := by
  obtain ⟨u, v, hu, _, hP⟩ := h
  exact ⟨u, v, Host.Outcome.next.inj (he.symm.trans hu), hP⟩

end State.Completes

/-- An instruction other than `INIT` is refused with nothing written, or the session is up (R210). -/
theorem exec_refused_or_ready {i : Instr} (hi : ∀ n, i ≠ .init n) (s : State) :
    (∃ e, exec i s = .next (s.deliver (.err e))) ∨ s.life = .ready := by
  rcases exec_prologue_cases i s with hrefused | ⟨n, hn, _⟩ | ⟨_, hready⟩
  · exact .inl hrefused
  · exact absurd hn (hi n)
  · exact .inr hready

theorem ne_init_of_busCommand {i : Instr} {cmd : BusCommand} (hc : busCommandOf i = some cmd) (n : Nat) : i ≠ .init n := by
  rintro rfl
  exact absurd hc nofun

/-! ### Write-only commands -/

/-- The states a write-only command can leave: refused, written, or its write failed (R56, R231). -/
def State.WriteEnds (s : State) (cmd : BusCommand) (arg : Word) (u : State) : Prop :=
  u = s ∨
  u = writtenState cmd (s.setEnv (s.env.sent s.params (encodeFrame s.params cmd arg) (perCommand s.params.settle cmd))) ∨
  u = (s.setEnv (s.env.writeFailed s.params (encodeFrame s.params cmd arg))).setLife
    (lifeAfterIoFail s.env.nextReset s.life)

theorem resultFits_done {i : Instr} {cmd : BusCommand} (hc : busCommandOf i = some cmd) (hr : rlen cmd = 0) :
    resultFits i .done := by
  cases i <;> cases hc <;> simp [resultFits, rlen, packetCount] at hr ⊢

/-- Everything a write-only command can do: it is refused, it is written in a session state that allows it, or its write
fails. -/
theorem exec_write_cases {i : Instr} {cmd : BusCommand} (hc : busCommandOf i = some cmd) (hr : rlen cmd = 0) (s : State) :
    (∃ e, exec i s = .next (s.deliver (.err e))) ∨
    (s.life = .ready ∧ legalIn cmd s.ss = true ∧ s.env.nextWrite = .ok ∧
      exec i s = .next ((writtenState cmd (s.setEnv (s.env.sent s.params (encodeFrame s.params cmd i.argument)
        (perCommand s.params.settle cmd)))).deliver .done)) ∨
    (∃ e, exec i s = .next (((s.setEnv (s.env.writeFailed s.params (encodeFrame s.params cmd i.argument))).setLife
      (lifeAfterIoFail s.env.nextReset s.life)).deliver (.err e))) := by
  rcases exec_refused_or_ready (ne_init_of_busCommand hc) s with hrefused | hs
  · exact .inl hrefused
  cases hl : legalIn cmd s.ss with
  | false =>
    have hi : i ≠ .readMeas := by
      rintro rfl
      cases hc
      exact absurd hr (by decide)
    refine .inl ⟨.illegalState i.operation (.session s.ss), ?_⟩
    rw [exec_illegal hc hl hs, refusalHere, if_neg hi]
  | true =>
    cases hw : s.env.nextWrite with
    | ok => exact .inr (.inl ⟨hs, rfl, rfl, exec_write_ok hc hs hw hr hl⟩)
    | ioFail =>
      refine .inr (.inr ⟨ioError s.env.nextReset .write, ?_⟩)
      rw [exec_write hc hr hl hs, doWriteCmd_ioFail hw, Ran.andThen_raised, finish_raised]

theorem exec_write_completes {i : Instr} {cmd : BusCommand} (hc : busCommandOf i = some cmd) (hr : rlen cmd = 0)
    (s : State) : s.Completes i (s.WriteEnds cmd i.argument) := by
  rcases exec_write_cases hc hr s with ⟨e, he⟩ | ⟨_, _, _, he⟩ | ⟨e, he⟩
  · exact .of_err he (.inl rfl)
  · exact ⟨_, _, he, .inr (resultFits_done hc hr), .inr (.inl rfl)⟩
  · exact .of_err he (.inr (.inr rfl))

theorem exec_write_ends {i : Instr} {cmd : BusCommand} {s t : State} (hc : busCommandOf i = some cmd) (hr : rlen cmd = 0)
    (he : exec i s = .next t) : ∃ u v, t = u.deliver v ∧ s.WriteEnds cmd i.argument u :=
  (exec_write_completes hc hr s).of_next he

theorem writtenState_outside (cmd : BusCommand) (s : State) : (writtenState cmd s).outside = s.outside := by
  cases cmd <;> rfl

theorem State.WriteEnds.outside {s u : State} {cmd : BusCommand} {arg : Word} (h : s.WriteEnds cmd arg u) :
    u.outside = s.outside := by
  rcases h with rfl | rfl | rfl
  · rfl
  · exact writtenState_outside cmd _
  · rfl

/-- A write-only command takes no answer to a read or to a probe. -/
theorem State.WriteEnds.answers {s u : State} {cmd : BusCommand} {arg : Word} (h : s.WriteEnds cmd arg u) :
    u.env.reads = s.env.reads ∧ u.env.probes = s.env.probes := by
  rcases h with rfl | rfl | rfl
  · exact ⟨rfl, rfl⟩
  · rw [writtenState_env]
    exact ⟨rfl, rfl⟩
  · exact ⟨rfl, rfl⟩

/-! ### Reads -/

/-- What reads may change: `LIFE`, the two counters, and the environment but for its answers to a probe. -/
structure State.ReadFrame (s u : State) : Prop where
  tuple : u.tuple = { s.tuple with life := u.life, errCum := u.errCum, errLast := u.errLast }
  outside : u.outside = s.outside
  probes : u.env.probes = s.env.probes

theorem State.ReadFrame.refl (s : State) : s.ReadFrame s := ⟨rfl, rfl, rfl⟩

theorem State.ReadFrame.trans {s t u : State} (h : s.ReadFrame t) (h' : t.ReadFrame u) : s.ReadFrame u where
  tuple := by rw [h'.tuple, h.tuple]
  outside := h'.outside.trans h.outside
  probes := h'.probes.trans h.probes

theorem readField_leaves_readFrame (cmd : BusCommand) (s : State) : (readField cmd s).Leaves s.ReadFrame := by
  rcases readField_cases cmd s with ⟨_, _, _, _, h⟩ | ⟨_, _, _, _, h⟩ | ⟨_, h⟩ | ⟨_, _, h⟩ <;> rw [h]
  · exact ⟨rfl, rfl, rfl⟩
  · exact ⟨rfl, rfl, rfl⟩
  · exact ⟨rfl, rfl, rfl⟩
  · exact ⟨rfl, rfl, rfl⟩

theorem readChain_leaves_readFrame {α : Type} (cmds : List BusCommand) {s : State}
    {k : List (Option (List Byte)) → State → Ran α} (hk : ∀ rs u, (k rs u).Leaves u.ReadFrame) :
    (readChain cmds k s).Leaves s.ReadFrame := by
  induction cmds generalizing s k with
  | nil => exact hk [] s
  | cons cmd cmds ih =>
    refine (readField_leaves_readFrame cmd s).andThen fun r u hu => ?_
    exact (ih fun rs => hk (r :: rs)).imp fun _ => hu.trans

theorem readChain_returns {α : Type} {Q : α → Prop} (cmds : List BusCommand) {s : State}
    {k : List (Option (List Byte)) → State → Ran α} (hk : ∀ rs u, (k rs u).Returns Q) :
    (readChain cmds k s).Returns Q := by
  induction cmds generalizing s k with
  | nil => exact hk [] s
  | cons cmd cmds ih => exact .andThen _ fun r _ => ih fun rs => hk (r :: rs)

theorem resultFits_fieldResult {i : Instr} {cmd : BusCommand} (hc : busCommandOf i = some cmd)
    (hf : singleFieldRead cmd = true) (r : Option (List Byte)) : resultFits i (fieldResult cmd r) := by
  cases i <;> cases hc <;> simp [singleFieldRead, resultFits, fieldResult] at hf ⊢

theorem exec_readField_completes {i : Instr} {cmd : BusCommand} (hc : busCommandOf i = some cmd)
    (hf : singleFieldRead cmd = true) (s : State) : s.Completes i s.ReadFrame := by
  rcases exec_refused_or_ready (ne_init_of_busCommand hc) s with ⟨e, he⟩ | hs
  · exact .of_err he (.refl s)
  · exact .of_finish (exec_readField hc hf hs) ((readField_leaves_readFrame cmd s).andThen fun _ _ hu => hu)
      (.andThen _ fun r _ => resultFits_fieldResult hc hf r)

theorem exec_deviceInfo_completes (s : State) : s.Completes .deviceInfo s.ReadFrame := by
  rcases exec_refused_or_ready (i := .deviceInfo) nofun s with ⟨e, he⟩ | hs
  · exact .of_err he (.refl s)
  · exact .of_finish (exec_deviceInfo_eq_readChain hs) (readChain_leaves_readFrame _ fun _ u => .refl u)
      (readChain_returns _ fun _ _ => ⟨_, rfl⟩)

/-! ### The measurement -/

/-- What `READ_MEAS` may change: what a read may, `VALID` and the frames of the window. -/
structure State.MeasFrame (s u : State) : Prop where
  tuple : u.tuple = { s.tuple with
    life := u.life, valid := u.valid, errCum := u.errCum, errLast := u.errLast, wbuf := u.wbuf }
  outside : u.outside = s.outside
  probes : u.env.probes = s.env.probes

/-- A push writes the frames of the window at most. -/
theorem aggPush_eq_setWbuf (f : Frame) (s : State) : (aggPush f s).2 = s.setWbuf (aggPush f s).2.wbuf := by
  rcases aggPush_cases f s with ⟨_, h⟩ | ⟨_, _, h⟩ | ⟨_, _, h⟩ <;> rw [h] <;> rfl

theorem deliverFrame_leaves_setWbuf (r : Option Frame) (s : State) :
    (deliverFrame r s).Leaves fun u => u = s.setWbuf u.wbuf := by
  rcases deliverFrame_cases r s with ⟨_, h⟩ | ⟨f, _, _, _, h⟩ | ⟨f, _, _, h⟩ <;> rw [h]
  · exact rfl
  · exact aggPush_eq_setWbuf f s
  · exact aggPush_eq_setWbuf f s

theorem deliverFrame_returns (r : Option Frame) (s : State) : (deliverFrame r s).Returns (resultFits .readMeas) := by
  rcases deliverFrame_cases r s with ⟨_, h⟩ | ⟨_, m, _, _, h⟩ | ⟨_, _, _, h⟩ <;> rw [h]
  · exact .inr ⟨_, rfl⟩
  · exact .inl ⟨m, rfl⟩
  · exact .inr ⟨_, rfl⟩

theorem measure_leaves_measFrame (s : State) : (measure s).Leaves s.MeasFrame := by
  rcases measure_cases s with ⟨_, _, _, _, h⟩ | ⟨_, _, _, _, h⟩ | ⟨_, h⟩ | ⟨_, _, h⟩ <;> rw [h]
  · refine (deliverFrame_leaves_setWbuf _ _).imp fun u hu => ?_
    rw [hu]
    exact ⟨rfl, rfl, rfl⟩
  · exact ⟨rfl, rfl, rfl⟩
  · exact ⟨rfl, rfl, rfl⟩
  · exact ⟨rfl, rfl, rfl⟩

theorem exec_readMeas_completes (s : State) : s.Completes .readMeas s.MeasFrame := by
  rcases exec_refused_or_ready (i := .readMeas) nofun s with ⟨e, he⟩ | hs
  · exact .of_err he ⟨rfl, rfl, rfl⟩
  by_cases hm : s.ss = .measuring
  · exact .of_finish (exec_readMeas hm hs) (measure_leaves_measFrame s) (.andThen _ fun _ _ => deliverFrame_returns _ _)
  · exact ⟨s, .noFrame .notMeasuring, exec_illegal rfl (beq_eq_false_iff_ne.mpr hm) hs, .inr (.inr ⟨_, rfl⟩), rfl, rfl, rfl⟩

/-! ### Local operations -/

/-- What `SET_WINDOW` may change: the size and the frames of the window. -/
structure State.WindowFrame (s u : State) : Prop where
  tuple : u.tuple = { s.tuple with winN := u.winN, wbuf := u.wbuf }
  outside : u.outside = s.outside
  env : u.env = s.env

theorem exec_setWindow_completes (n : Nat) (s : State) : s.Completes (.setWindow n) s.WindowFrame := by
  rcases exec_refused_or_ready (i := .setWindow n) nofun s with ⟨e, he⟩ | hs
  · exact .of_err he ⟨rfl, rfl, rfl⟩
  have he := exec_setWindow n hs
  split at he
  · exact .of_err he ⟨rfl, rfl, rfl⟩
  · exact ⟨_, _, he, .inr rfl, rfl, rfl, rfl⟩

/-- What `INIT` leaves as it is: all answers of the environment but that to a probe. -/
structure State.InitFrame (s u : State) : Prop where
  outside : u.outside = s.outside
  writes : u.env.writes = s.env.writes
  reads : u.env.reads = s.env.reads
  resets : u.env.resets = s.env.resets

theorem exec_init_completes (n : Nat) (s : State) : s.Completes (.init n) s.InitFrame := by
  rcases exec_prologue_cases (.init n) s with ⟨e, he⟩ | ⟨_, _, hs⟩ | ⟨hn, _⟩
  · exact .of_err he ⟨rfl, rfl, rfl, rfl⟩
  · have he := exec_init n hs
    split at he
    · exact .of_err he ⟨rfl, rfl, rfl, rfl⟩
    · split at he
      · exact .of_err he ⟨rfl, rfl, rfl, rfl⟩
      · exact ⟨_, _, he, .inr rfl, rfl, rfl, rfl, rfl⟩
  · exact absurd rfl (hn n)

/-! ### One result per operation -/

theorem exec_completes (i : Instr) (s : State) : s.Completes i (·.outside = s.outside) := by
  rcases instr_cases i with ⟨n, rfl⟩ | ⟨n, rfl⟩ | rfl | rfl | ⟨cmd, hc, hf⟩ | ⟨cmd, hc, hr⟩
  · exact (exec_init_completes n s).imp fun _ h => h.outside
  · exact (exec_setWindow_completes n s).imp fun _ h => h.outside
  · exact (exec_deviceInfo_completes s).imp fun _ h => h.outside
  · exact (exec_readMeas_completes s).imp fun _ h => h.outside
  · exact (exec_readField_completes hc hf s).imp fun _ h => h.outside
  · exact (exec_write_completes hc hr s).imp fun _ h => h.outside

/-- Settles O41: every instruction completes, and its calls come after the earlier ones (`busTransactionShape`). -/
theorem oneResultPerOperation : Obligations.OneResultPerOperation := by
  intro i s
  obtain ⟨u, v, he, hv, hout⟩ := exec_completes i s
  obtain ⟨c, hcalls, -⟩ := busTransactionShape i s _ he
  obtain ⟨hparams, hmoves, hresults⟩ : u.params = s.params ∧ u.moves = s.moves ∧ u.results = s.results := by
    simpa only [State.outside, Prod.mk.injEq] using hout
  exact ⟨u.deliver v, v, c, he, by rw [State.deliver_results, hresults], hv, hparams, hmoves, hcalls⟩

/-! ### What stays, by instruction -/

theorem writtenState_life (cmd : BusCommand) (s : State) : (writtenState cmd s).life = s.life := by
  cases cmd <;> rfl

theorem writtenState_results (cmd : BusCommand) (s : State) : (writtenState cmd s).results = s.results := by
  cases cmd <;> rfl

theorem aggPush_life (f : Frame) (s : State) : (aggPush f s).2.life = s.life := by
  rw [aggPush_eq_setWbuf, State.setWbuf_life]

/-- `LIFE` is not written but by the failure of a bus reset (R56, R57). -/
theorem updatesKeep_life (l : Life) : UpdatesKeep fun u => u.life = l ∨ u.life = .fatal where
  deliver _ _ h := h
  setEnv _ _ h := h
  fatal _ _ := .inr rfl
  attempted _ _ h := h
  setValid _ _ h := h
  push s f _ h := (aggPush_life f s).symm ▸ h
  setWindow _ _ _ h := h

theorem exec_life {i : Instr} {s t : State} (he : exec i s = .next t) :
    t.life = s.life ∨ t.life = .fatal ∨ ∃ n, i = .init n := by
  by_cases hi : ∃ n, i = .init n
  · exact .inr (.inr hi)
  · have hkeep : t.life = s.life ∨ t.life = .fatal := by
      refine (updatesKeep_life s.life).exec_keeps (.inl rfl) (fun n hn => absurd ⟨n, hn⟩ hi) ?_ he
      intro cmd u _ _ hu
      rwa [writtenState_life]
    exact hkeep.imp_right .inl

/-- Settles O46: the states each kind of instruction can leave. -/
theorem framesOfWritesAndReads : Obligations.FramesOfWritesAndReads := by
  intro i s t he
  refine ⟨?_, ?_, ?_, exec_life he⟩
  · intro hi
    obtain ⟨cmd, hc, hr, hsame⟩ : ∃ cmd, busCommandOf i = some cmd ∧ rlen cmd = 0 ∧ ∀ u, writtenState cmd u = u := by
      rcases hi with rfl | rfl | ⟨v, rfl⟩
      · exact ⟨.startFanClean, rfl, rfl, fun _ => rfl⟩
      · exact ⟨.clearStatus, rfl, rfl, fun _ => rfl⟩
      · exact ⟨.writeAutoclean, rfl, rfl, fun _ => rfl⟩
    obtain ⟨u, v, rfl, hu⟩ := exec_write_ends hc hr he
    refine ⟨?_, hu.answers⟩
    rcases hu with rfl | rfl | rfl
    · rfl
    · rw [hsame]
      rfl
    · rfl
  · intro hi
    have hcompletes : s.Completes i s.ReadFrame := by
      rcases hi with rfl | rfl | rfl | rfl | rfl | rfl | rfl
      case inr.inr.inr.inr.inr.inr => exact exec_deviceInfo_completes s
      all_goals exact exec_readField_completes rfl rfl s
    obtain ⟨u, v, rfl, hu⟩ := hcompletes.of_next he
    exact ⟨hu.tuple, hu.probes⟩
  · rintro rfl
    obtain ⟨u, v, rfl, hu⟩ := (exec_readMeas_completes s).of_next he
    exact ⟨hu.tuple, hu.probes⟩

/-- Settles O47: a mode-changing command is refused, written or failed; the local operations write what they name. -/
theorem framesOfModeAndLocal : Obligations.FramesOfModeAndLocal := by
  intro i s t he
  refine ⟨?_, ?_, ?_, ?_, ?_, ?_, ?_⟩
  · rintro rfl
    obtain ⟨u, v, rfl, rfl | rfl | rfl⟩ := exec_write_ends (cmd := .startMeas) rfl rfl he <;> rfl
  · rintro (rfl | rfl)
    · obtain ⟨u, v, rfl, rfl | rfl | rfl⟩ := exec_write_ends (cmd := .stopMeas) rfl rfl he <;> rfl
    · obtain ⟨u, v, rfl, rfl | rfl | rfl⟩ := exec_write_ends (cmd := .sleep) rfl rfl he <;> rfl
  · rintro rfl
    obtain ⟨u, v, rfl, rfl | rfl | rfl⟩ := exec_write_ends (cmd := .wakeup) rfl rfl he <;> rfl
  · rintro rfl
    obtain ⟨u, v, rfl, rfl | rfl | rfl⟩ := exec_write_ends (cmd := .reset) rfl rfl he <;> rfl
  · intro hi
    obtain ⟨cmd, hc, hr⟩ : ∃ cmd, busCommandOf i = some cmd ∧ rlen cmd = 0 := by
      rcases hi with rfl | rfl | rfl | rfl | rfl <;> exact ⟨_, rfl, rfl⟩
    obtain ⟨u, v, rfl, hu⟩ := exec_write_ends hc hr he
    exact hu.answers
  · rintro ⟨n, rfl⟩
    obtain ⟨u, v, rfl, hu⟩ := (exec_setWindow_completes n s).of_next he
    exact ⟨hu.tuple, hu.env⟩
  · rintro ⟨n, rfl⟩
    obtain ⟨u, v, rfl, hu⟩ := (exec_init_completes n s).of_next he
    exact ⟨hu.writes, hu.reads, hu.resets⟩

/-! ### The session state -/

theorem updatesKeep_session (ss : Session) : UpdatesKeep fun u => u.ss = ss where
  deliver _ _ h := h
  setEnv _ _ h := h
  fatal _ h := h
  attempted _ _ h := h
  setValid _ _ h := h
  push s f _ h := by rwa [aggPush_eq_setWbuf, State.setWbuf_ss]
  setWindow _ _ _ h := h

/-- A reading command is not written. -/
theorem writtenState_of_reading {cmd : BusCommand} (hr : rlen cmd ≠ 0) (s : State) : writtenState cmd s = s := by
  cases cmd with
  | startMeas | stopMeas | sleep | wakeup | reset => exact absurd rfl hr
  | _ => rfl

/-- The arrows of the transition table (R230), and no others, are what a legal write-only command writes into `SS`. -/
theorem writtenState_arrow {i : Instr} {cmd : BusCommand} (hc : busCommandOf i = some cmd) {u : State}
    (hl : legalIn cmd u.ss = true) (hss : (writtenState cmd u).ss ≠ u.ss) :
    (i = .startMeas ∧ u.ss = .idle ∧ (writtenState cmd u).ss = .measuring) ∨
    (i = .stopMeas ∧ u.ss = .measuring ∧ (writtenState cmd u).ss = .idle) ∨
    (i = .sleep ∧ u.ss ≠ .sleeping ∧ (writtenState cmd u).ss = .sleeping) ∨
    (i = .wakeup ∧ u.ss = .sleeping ∧ (writtenState cmd u).ss = .idle) ∨
    (i = .reset ∧ (writtenState cmd u).ss = .idle) := by
  cases i <;> cases hc
  case startMeas => exact .inl ⟨rfl, beq_iff_eq.mp hl, rfl⟩
  case stopMeas => exact .inr (.inl ⟨rfl, beq_iff_eq.mp hl, rfl⟩)
  case sleep => exact .inr (.inr (.inl ⟨rfl, bne_iff_ne.mp hl, rfl⟩))
  case wakeup => exact .inr (.inr (.inr (.inl ⟨rfl, beq_iff_eq.mp hl, rfl⟩)))
  case reset => exact .inr (.inr (.inr (.inr ⟨rfl, rfl⟩)))
  all_goals exact absurd rfl hss

/-- An `INIT` that changes `SS` has made the session (R211). -/
theorem exec_init_session {n : Nat} {s t : State} (he : exec (.init n) s = .next t) (hss : t.ss ≠ s.ss) :
    s.life = .uninit ∧ t.life = .ready ∧ t.ss = .idle := by
  rcases exec_prologue_cases (.init n) s with ⟨e, hp⟩ | ⟨_, _, hs⟩ | ⟨hn, _⟩
  · obtain rfl := Host.Outcome.next.inj (he.symm.trans hp)
    exact absurd rfl hss
  · rw [exec_init n hs] at he
    split at he
    · exact absurd (congrArg State.ss (Host.Outcome.next.inj he)).symm hss
    · split at he
      · exact absurd (congrArg State.ss (Host.Outcome.next.inj he)).symm hss
      · obtain rfl := Host.Outcome.next.inj he
        exact ⟨hs, rfl, rfl⟩
  · exact absurd rfl (hn n)

/-- Settles O30: but for `INIT`, `SS` is written by a legal write-only command whose write succeeded, and by nothing else. -/
theorem sessionChangesOnlyByArrows : Obligations.SessionChangesOnlyByArrows := by
  intro i s t he hss
  by_cases hinit : ∃ n, i = .init n
  · obtain ⟨n, rfl⟩ := hinit
    exact .inl ⟨n, rfl, exec_init_session he hss⟩
  by_cases hwrite : ∃ cmd, busCommandOf i = some cmd ∧ rlen cmd = 0
  · obtain ⟨cmd, hc, hr⟩ := hwrite
    rcases exec_write_cases hc hr s with ⟨e, hw⟩ | ⟨hs, hl, hok, hw⟩ | ⟨e, hw⟩ <;>
      obtain rfl := Host.Outcome.next.inj (he.symm.trans hw)
    · exact absurd rfl hss
    · have harrow := writtenState_arrow hc (u := s.setEnv (s.env.sent _ _ _)) hl hss
      refine .inr ⟨hs, (writtenState_life cmd _).trans hs, hok, ?_, harrow⟩
      exact congrArg (· ++ [Result.done]) (writtenState_results cmd _)
    · exact absurd rfl hss
  · refine absurd ((updatesKeep_session s.ss).exec_keeps rfl (fun n hn => absurd ⟨n, hn⟩ hinit) ?_ he) hss
    intro cmd u hc _ hu
    rwa [writtenState_of_reading fun hr => hwrite ⟨cmd, hc, hr⟩]

end Sys2Proof.Machine
end

section
/-! The statements about errors (spec/60_exceptions.md): the empty result outside `Measuring` (R255), a response of another
length (R254), the sticky refusal after a failed bus reset (R259), and what an `Err` can be and can have written (R256, R262,
R263). An `Err` either refuses its operation, with the tuple as before (`Tuple.Refused`), or cuts a bus transaction short
(`Tuple.CutShort`); which of them an instruction can report is said once, by `exec_fails` and `exec_deviceInfo_fails`. -/

namespace Sys2Proof.Machine

/-- Settles O34: `READ_MEAS` is legal in `Measuring` only, and its refusal is the empty result. -/
theorem notMeasuringGuard : Obligations.NotMeasuringGuard :=
  ⟨fun _ hs hm => exec_illegal (i := .readMeas) rfl (beq_eq_false_iff_ne.mpr hm) hs, rfl, rfl⟩

/-- Settles O22: the exchange is made, and the length check ends the command before its decode. -/
theorem lengthMismatchResult : Obligations.LengthMismatchResult := by
  intro i cmd s raw hc hr hl hs hw hrd hlen
  obtain ⟨k, hk, -⟩ := exec_reading hc hr hl hs
  rw [hk, checkedRead_badLength cmd k hw hrd hlen, finish_raised]
  rfl

/-! ### After a failed bus reset -/

theorem runRequest_fatal (r : Request) {s : State} (hs : s.life = .fatal) :
    runRequest r s = .next (s.deliver (.err (.busResetFatal .sticky))) := by
  unfold runRequest
  split
  · next i _ => exact exec_prologue (prologue_fatal i.operation hs)
  · next opsel _ => exact rejectUnknown_fatal opsel hs

theorem step_fatal {s : State} {r : Request} {ms : List HostMove} (hs : s.life = .fatal)
    (hm : s.moves = .operation r :: ms) :
    step s = .next ((s.setMoves ms).deliver (.err (.busResetFatal .sticky))) := by
  simp only [step, hm, runMove]
  exact runRequest_fatal r hs

theorem core_run_succ {s t : State} (h : step s = .next t) (k : Nat) : core.run (k + 1) s = core.run k t := by
  have hcore : core.step s = .next t := h
  simp only [Host.Core.run, hcore]

/-- The whole state after any number of requests in `Fatal`: the moves are taken, and each has one result. -/
theorem core_run_fatal (rs : List Request) {s : State} (hs : s.life = .fatal)
    (hm : s.moves = rs.map HostMove.operation) : core.run rs.length s = .next { s with
      moves := [], results := s.results ++ List.replicate rs.length (.err (.busResetFatal .sticky)) } := by
  induction rs generalizing s with
  | nil => simp [Host.Core.run, ← List.map_nil (f := HostMove.operation), ← hm]
  | cons r rs ih =>
    rw [List.length_cons, core_run_succ (step_fatal hs hm), ih (by exact hs) rfl]
    simp [State.setMoves, State.deliver, List.replicate_succ]

/-- Settles O6, by induction on the requests. -/
theorem fatalRefusesEveryOperation : Obligations.FatalRefusesEveryOperation :=
  fun rs _ hs hm => ⟨_, core_run_fatal rs hs hm, rfl, rfl, rfl, rfl, rfl⟩

/-! ### What an error ends -/

/-- `e`, an error that an operation can report (R256), ended it outside a bus transaction, and the tuple `c` after it is the
tuple `b` before it (R262). -/
structure Tuple.Refused (b : Tuple) (e : Error) (c : Tuple) : Prop where
  outside : e.inTransaction = false
  reported : ∀ n, e ≠ .checksumInput n
  tuple : c = b

/-- `e` ended a bus transaction: from `b` to `c`, `LIFE` is written by the first report of a failed bus reset, and `ERR_LAST`
stands at `last` (R263). -/
structure Tuple.CutShort (b : Tuple) (last : BitVec 32) (e : Error) (c : Tuple) : Prop where
  inside : e.inTransaction = true
  tuple : c = { b with life := if e.isFirstFatal then .fatal else b.life, errLast := last }

theorem isFirstFatal_of_outside {e : Error} (h : e.inTransaction = false) : e.isFirstFatal = false := by
  cases e with
  | transport during => rfl
  | busResetFatal info => cases info with
    | during p => exact absurd h nofun
    | sticky => rfl
  | _ => rfl

theorem Tuple.CutShort.ne_checksumInput {b c : Tuple} {last : BitVec 32} {e : Error} (h : b.CutShort last e c) (n : Nat) :
    e ≠ .checksumInput n := by
  rintro rfl
  exact absurd h.inside nofun

theorem inTransaction_ioError (q : ResetOutcome) (during : BusPhase) : (ioError q during).inTransaction = true := by
  cases q <;> rfl

theorem lifeAfterIoFail_eq (q : ResetOutcome) (during : BusPhase) (l : Life) :
    lifeAfterIoFail q l = if (ioError q during).isFirstFatal then .fatal else l := by
  cases q <;> rfl

/-- An `io_fail` cuts the transaction short, whether its bus reset fails or not (R56, R57). -/
theorem cutShort_ioError (b : Tuple) (last : BitVec 32) (q : ResetOutcome) (during : BusPhase) :
    b.CutShort last (ioError q during) { b with life := lifeAfterIoFail q b.life, errLast := last } :=
  ⟨inTransaction_ioError q during, by rw [lifeAfterIoFail_eq q during]⟩

/-- The prologue's errors refuse (R210). -/
theorem prologue_refused {op : Operation} {s : State} {e : Error} (h : prologue op s = some e) (b : Tuple) :
    b.Refused e b := by
  unfold prologue at h
  split at h
  · obtain rfl := Option.some.inj h
    exact ⟨rfl, nofun, rfl⟩
  · obtain ⟨-, hsome⟩ := Option.ite_none_left_eq_some.mp h
    obtain rfl := Option.some.inj hsome
    exact ⟨rfl, nofun, rfl⟩
  · obtain ⟨-, hsome⟩ := Option.ite_none_right_eq_some.mp h
    obtain rfl := Option.some.inj hsome
    exact ⟨rfl, nofun, rfl⟩

/-! ### The errors of a body -/

/-- A body that is ended by a `raise` is ended with an error and a tuple as `Q` says (R262). -/
def Ran.Raises {α : Type} (Q : Error → Tuple → Prop) : Ran α → Prop
  | .done _ _ => True
  | .raised e u => Q e u.tuple

/-- An `Err` that the instruction returns on `s`, and the tuple after it, are as `Q` says. -/
def State.FailsAs (s : State) (i : Instr) (Q : Error → Tuple → Prop) : Prop :=
  ∀ t e, exec i s = .next t → t.results = s.results ++ [.err e] → Q e t.tuple

theorem not_resultFits_err (i : Instr) (e : Error) : ¬ resultFits i (.err e) := by
  cases i <;> simp [resultFits]

/-- The last result is the one delivered. -/
theorem eq_of_deliver_results {u : State} {v w : Result} {l : List Result} (h : (u.deliver v).results = l ++ [w]) : v = w :=
  List.singleton_inj.mp (List.append_inj_right' h rfl)

namespace State.FailsAs
variable {s u : State} {i : Instr} {Q Q' : Error → Tuple → Prop}

theorem imp (h : s.FailsAs i Q) (hQ : ∀ e c, Q e c → Q' e c) : s.FailsAs i Q' :=
  fun t e he hres => hQ e t.tuple (h t e he hres)

theorem of_err {e : Error} (he : exec i s = .next (u.deliver (.err e))) (hQ : Q e u.tuple) : s.FailsAs i Q := by
  intro t e' ht hres
  obtain rfl := Host.Outcome.next.inj (he.symm.trans ht)
  obtain rfl := Result.err.inj (eq_of_deliver_results hres)
  exact hQ

theorem of_fits {v : Result} (he : exec i s = .next (u.deliver v)) (hv : resultFits i v) : s.FailsAs i Q := by
  intro t e ht hres
  obtain rfl := Host.Outcome.next.inj (he.symm.trans ht)
  obtain rfl := eq_of_deliver_results hres
  exact absurd hv (not_resultFits_err i e)

theorem of_finish {r : Ran Result} (he : exec i s = finish r) (hv : r.Returns (resultFits i)) (hr : r.Raises Q) :
    s.FailsAs i Q := by
  cases r with
  | done v u => exact of_fits he hv
  | raised e u => exact of_err he hr

end State.FailsAs

theorem deliverFrame_raises (r : Option Frame) (s : State) (Q : Error → Tuple → Prop) : (deliverFrame r s).Raises Q := by
  rcases deliverFrame_cases r s with ⟨_, h⟩ | ⟨_, _, _, _, h⟩ | ⟨_, _, _, h⟩ <;> rw [h] <;> exact trivial

/-- A read is cut short with `ERR_LAST` at 0, or it goes on from its exchange (R141, R232). -/
theorem checkedRead_raises {α : Type} {cmd : BusCommand} {k : List Byte → State → Ran α} {s : State}
    {Q : Error → Tuple → Prop} (hcut : ∀ e c, s.tuple.CutShort 0 e c → Q e c)
    (hk : ∀ raw env, (k raw (s.startAttempt.setEnv env)).Raises Q) : (checkedRead cmd k s).Raises Q := by
  cases hw : s.env.nextWrite with
  | ioFail =>
    rw [checkedRead_writeFail cmd k hw]
    exact hcut _ _ (cutShort_ioError s.tuple 0 s.env.nextReset .write)
  | ok =>
    cases hr : s.env.nextRead with
    | ioFail =>
      rw [checkedRead_readFail cmd k hw hr]
      exact hcut _ _ (cutShort_ioError s.tuple 0 s.env.nextReset .read)
    | bytes raw =>
      by_cases hlen : raw.length = rlen cmd
      · rw [checkedRead_ok cmd k hw hr hlen]
        exact hk raw _
      · rw [checkedRead_badLength cmd k hw hr hlen]
        exact hcut _ _ ⟨rfl, rfl⟩

theorem doWriteCmd_andThen_raises (cmd : BusCommand) (arg : Word) (s : State) :
    ((doWriteCmd cmd arg s).andThen fun _ u => .done Result.done (writtenState cmd u)).Raises
      (s.tuple.CutShort s.errLast) := by
  rcases doWriteCmd_cases cmd arg s with ⟨_, hd⟩ | ⟨_, hd⟩ <;> rw [hd]
  · exact trivial
  · exact cutShort_ioError s.tuple s.errLast s.env.nextReset .write

/-! ### The errors of an instruction of at most one bus command -/

theorem readsResponse_of_busCommand {i : Instr} {cmd : BusCommand} (hc : busCommandOf i = some cmd) :
    readsResponse i = (rlen cmd != 0) := by
  simp only [readsResponse, hc]

/-- `ERR_LAST` after an error inside the transaction of an instruction: a reading command has put it at 0 (R232). -/
def State.lastBegun (s : State) (i : Instr) : BitVec 32 := if readsResponse i then 0 else s.errLast

theorem State.lastBegun_of_reading {s : State} {i : Instr} {cmd : BusCommand} (hc : busCommandOf i = some cmd)
    (hr : rlen cmd ≠ 0) : s.lastBegun i = 0 := by
  rw [State.lastBegun, readsResponse_of_busCommand hc, if_pos (bne_iff_ne.mpr hr)]

theorem State.lastBegun_of_write {s : State} {i : Instr} {cmd : BusCommand} (hc : busCommandOf i = some cmd)
    (hr : rlen cmd = 0) : s.lastBegun i = s.errLast := by
  rw [State.lastBegun, readsResponse_of_busCommand hc, hr]
  rfl

theorem rlen_ne_zero_of_singleField {cmd : BusCommand} (hf : singleFieldRead cmd = true) : rlen cmd ≠ 0 := by
  cases cmd <;> simp [singleFieldRead, rlen, packetCount] at hf ⊢

/-- A legal bus command ends in an error only inside its transaction (R263). -/
theorem exec_legal_fails {i : Instr} {cmd : BusCommand} {s : State} (hc : busCommandOf i = some cmd)
    (hl : legalIn cmd s.ss = true) (hs : s.life = .ready) : s.FailsAs i (s.tuple.CutShort (s.lastBegun i)) := by
  rcases busCommand_shape hc with ⟨rfl, rfl⟩ | hf | hr
  · rw [State.lastBegun_of_reading hc (by decide)]
    refine .of_finish (exec_readMeas (by simpa [legalIn] using hl) hs) (.andThen _ fun _ _ => deliverFrame_returns _ _) ?_
    rw [measure_eq]
    exact checkedRead_raises (fun _ _ h => h) fun _ _ => deliverFrame_raises _ _ _
  · rw [State.lastBegun_of_reading hc (rlen_ne_zero_of_singleField hf)]
    refine .of_finish (exec_readField hc hf hs) (.andThen _ fun r _ => resultFits_fieldResult hc hf r) ?_
    rw [readField_andThen_eq]
    exact checkedRead_raises (fun _ _ h => h) fun _ _ => trivial
  · rw [State.lastBegun_of_write hc hr]
    exact .of_finish (exec_write hc hr hl hs) (.andThen _ fun _ _ => resultFits_done hc hr)
      (doWriteCmd_andThen_raises cmd i.argument s)

/-- A bus command in a session state with no arrow for it is refused (R229); for `READ_MEAS` that is no error (R255). -/
theorem exec_illegal_fails {i : Instr} {cmd : BusCommand} {s : State} (hc : busCommandOf i = some cmd)
    (hl : legalIn cmd s.ss = false) (hs : s.life = .ready) : s.FailsAs i s.tuple.Refused := by
  have he := exec_illegal hc hl hs
  by_cases hi : i = .readMeas
  · subst hi
    exact .of_fits he (.inr ⟨_, rfl⟩)
  · rw [refusalHere, if_neg hi] at he
    exact .of_err he ⟨rfl, nofun, rfl⟩

/-- The errors of a bus command in a session that is up (R229). -/
theorem exec_busCommand_fails {i : Instr} {cmd : BusCommand} {s : State} (hc : busCommandOf i = some cmd)
    (hs : s.life = .ready) :
    s.FailsAs i fun e c => s.tuple.Refused e c ∨ s.tuple.CutShort (s.lastBegun i) e c := by
  cases hl : legalIn cmd s.ss with
  | true => exact (exec_legal_fails hc hl hs).imp fun _ _ => .inr
  | false => exact (exec_illegal_fails hc hl hs).imp fun _ _ => .inl

theorem exec_setWindow_fails (n : Nat) {s : State} (hs : s.life = .ready) :
    s.FailsAs (.setWindow n) s.tuple.Refused := by
  have he := exec_setWindow n hs
  split at he
  · exact .of_err he ⟨rfl, nofun, rfl⟩
  · exact .of_fits he rfl

/-- `INIT` fails on its argument or on the probe, before any state is written (R211). -/
theorem exec_init_fails (n : Nat) {s : State} (hs : s.life = .uninit) : s.FailsAs (.init n) s.tuple.Refused := by
  have he := exec_init n hs
  split at he
  · exact .of_err he ⟨rfl, nofun, rfl⟩
  · split at he
    · exact .of_err he ⟨rfl, nofun, rfl⟩
    · exact .of_fits he rfl

/-- The errors of every instruction but `DEVICE_INFO`: it is refused, or its one transaction is cut short. -/
theorem exec_fails {i : Instr} (hi : i ≠ .deviceInfo) (s : State) :
    s.FailsAs i fun e c => s.tuple.Refused e c ∨ s.tuple.CutShort (s.lastBegun i) e c := by
  cases hp : prologue i.operation s with
  | some e => exact .of_err (exec_prologue hp) (.inl (prologue_refused hp s.tuple))
  | none =>
    have ready : (∀ n, i ≠ .init n) → s.life = .ready := fun hni =>
      (prologue_eq_none_iff (operation_ne_init hni) s).mp hp
    rcases instr_cases i with ⟨n, rfl⟩ | ⟨n, rfl⟩ | rfl | rfl | ⟨cmd, hc, _⟩ | ⟨cmd, hc, _⟩
    · exact (exec_init_fails n ((prologue_init_eq_none_iff s).mp hp)).imp fun _ _ => .inl
    · exact (exec_setWindow_fails n (ready nofun)).imp fun _ _ => .inl
    · exact absurd rfl hi
    · exact exec_busCommand_fails rfl (ready nofun)
    · exact exec_busCommand_fails hc (ready (ne_init_of_busCommand hc))
    · exact exec_busCommand_fails hc (ready (ne_init_of_busCommand hc))

/-! ### The errors of `DEVICE_INFO` -/

/-- Counts made before a read that is cut short add up; `ERR_LAST` is 0 after it whatever it was (R228, R232). -/
theorem Tuple.CutShort.attempted_add {s : State} {m n : Nat} {env : Env} {e : Error} {c : Tuple}
    (h : (((s.attempted m).setEnv env).attempted n).tuple.CutShort 0 e c) :
    (s.attempted (m + n)).tuple.CutShort 0 e c :=
  ⟨h.inside, by simp [h.tuple, State.attempted, State.tuple]⟩

theorem Ran.Raises.imp {α : Type} {r : Ran α} {Q Q' : Error → Tuple → Prop} (h : r.Raises Q)
    (hQ : ∀ e c, Q e c → Q' e c) : r.Raises Q' := by
  cases r with
  | done a u => exact trivial
  | raised e u => exact hQ e u.tuple h

/-- A chain of reads is cut short at one of them; each read before it has counted at most one error (R146). -/
theorem readChain_raises {α : Type} (cmds : List BusCommand) {s : State}
    {k : List (Option (List Byte)) → State → Ran α} (hk : ∀ rs u Q, (k rs u).Raises Q) :
    (readChain cmds k s).Raises fun e c => ∃ n < cmds.length, (s.attempted n).tuple.CutShort 0 e c := by
  induction cmds generalizing s k with
  | nil => exact hk [] s _
  | cons cmd cmds ih =>
    rw [readChain, readField_andThen_eq]
    refine checkedRead_raises (fun e c h => ⟨0, Nat.succ_pos _, ?_⟩) fun raw env => ?_
    · rw [State.attempted_zero]
      exact ⟨h.inside, h.tuple⟩
    · rw [decodeField_eq]
      refine (ih (s := (s.attempted (invalidCount raw (packetCount cmd))).setEnv env) fun rs => hk _).imp ?_
      rintro e c ⟨n, hn, h⟩
      have hone := invalidCount_le_one raw (packetCount cmd)
      exact ⟨_, by rw [List.length_cons]; omega, h.attempted_add⟩

/-- The errors of `DEVICE_INFO`: it is refused, or one of its five reads is cut short. -/
theorem exec_deviceInfo_fails (s : State) : s.FailsAs .deviceInfo fun e c =>
    s.tuple.Refused e c ∨ ∃ n < 5, (s.attempted n).tuple.CutShort 0 e c := by
  cases hp : prologue .deviceInfo s with
  | some e => exact .of_err (exec_prologue (i := .deviceInfo) hp) (.inl (prologue_refused hp s.tuple))
  | none =>
    have hs : s.life = .ready := (prologue_eq_none_iff (by decide) s).mp hp
    exact .of_finish (exec_deviceInfo_eq_readChain hs) (readChain_returns _ fun _ _ => ⟨_, rfl⟩)
      ((readChain_raises infoCommands (k := deliverInfo) fun _ _ _ => trivial).imp fun _ _ => .inr)

/-! ### The statements about errors -/

/-- Settles O40: a refusal leaves the tuple, a transaction cut short writes `LIFE` and `ERR_LAST`. -/
theorem errorsArePrecise : Obligations.ErrorsArePrecise := by
  intro i s t e he hres
  refine ⟨fun hi => ?_, ?_⟩
  · rcases exec_fails hi s t e he hres with h | h
    · rw [h.tuple, h.outside, isFirstFatal_of_outside h.outside]
      rfl
    · rw [h.tuple, h.inside]
      rfl
  · rintro rfl
    rcases exec_deviceInfo_fails s t e he hres with h | ⟨n, hn, h⟩
    · have hcum : t.errCum = s.errCum := congrArg Tuple.errCum h.tuple
      rw [h.tuple, hcum, h.outside, isFirstFatal_of_outside h.outside]
      exact ⟨rfl, le_rfl, Nat.le_add_right _ 4⟩
    · have hcum : t.errCum = counted s.errCum n := congrArg Tuple.errCum h.tuple
      rw [h.tuple, hcum, h.inside, counted_toNat]
      exact ⟨rfl, by omega, by omega⟩

/-- No instruction reports `ChecksumInputError` (R256). -/
theorem exec_ne_checksumInput (i : Instr) (s : State) : s.FailsAs i fun e _ => ∀ n, e ≠ .checksumInput n := by
  by_cases hi : i = .deviceInfo
  · subst hi
    refine (exec_deviceInfo_fails s).imp fun e c h => ?_
    rcases h with h | ⟨_, _, h⟩
    · exact h.reported
    · exact h.ne_checksumInput
  · refine (exec_fails hi s).imp fun e c h => ?_
    rcases h with h | h
    · exact h.reported
    · exact h.ne_checksumInput

theorem checksumList_of_length_ne_two {l : List Byte} (h : l.length ≠ 2) :
    checksumList l = .error (.checksumInput l.length) := by
  unfold checksumList
  split
  · exact absurd rfl h
  · rfl

/-- Settles O14: the error is that of the list form, and no operation reports it. -/
theorem checksumListRejectsOtherLengths : Obligations.ChecksumListRejectsOtherLengths :=
  ⟨fun _ _ => rfl, fun _ => checksumList_of_length_ne_two,
    fun i s t n he hres => exec_ne_checksumInput i s t (.checksumInput n) he hres n rfl⟩

end Sys2Proof.Machine
end

section
/-! The statement that no partial frame is returned or buffered (spec/60_exceptions.md R267). Only an accepted frame is delivered
(`measure_returns_whole`) and only an accepted frame is pushed (`UpdatesKeep.push`); a hardware reset empties the window. -/

namespace Sys2Proof.Machine

/-! ### Frames that an instruction adds -/

/-- Every frame that `t` has over `s`, in its results or in its window, has all three flags (R267). -/
structure State.AddsWholeFrames (s t : State) : Prop where
  results : ∀ f, Result.frameOut f ∈ t.results → Result.frameOut f ∈ s.results ∨ f.v = allSections
  wbuf : ∀ f ∈ t.wbuf, f ∈ s.wbuf ∨ f.v = allSections

/-- What the aggregator makes of a frame with all three flags has all three flags (R191, R195). -/
theorem aggPush_whole {f m : Frame} (hf : f.v = allSections) {s : State} (hm : (aggPush f s).1 = some m) :
    m.v = allSections := by
  rcases aggPush_cases f s with ⟨_, h⟩ | ⟨_, _, h⟩ | ⟨_, _, h⟩ <;> rw [h] at hm
  · exact Option.some.inj hm ▸ hf
  · exact Option.some.inj hm ▸ meanFrame_v _ _
  · exact absurd hm nofun

/-- Only an accepted frame is delivered (R181, R215). -/
theorem measure_returns_whole (s : State) : (measure s).Returns fun v => ∀ f, v = .frameOut f → f.v = allSections := by
  rcases measure_cases s with ⟨raw, _, _, _, h⟩ | ⟨_, _, _, _, h⟩ | ⟨_, h⟩ | ⟨_, _, h⟩ <;> rw [h]
  · rcases deliverFrame_cases (if (measFrame raw).v.accepted then some (measFrame raw) else none) _ with
      ⟨_, hd⟩ | ⟨f, m, hf, hm, hd⟩ | ⟨_, _, _, hd⟩ <;> rw [hd]
    · exact nofun
    · obtain ⟨hacc, hfr⟩ := Option.ite_none_right_eq_some.mp hf
      obtain rfl := Option.some.inj hfr
      rintro _ ⟨⟩
      exact aggPush_whole (accepted_eq_all hacc) hm
    · exact nofun
  · exact trivial
  · exact trivial
  · exact trivial

/-- Only `READ_MEAS` returns a frame (R234). -/
theorem eq_readMeas_of_resultFits {i : Instr} {f : Frame} (h : resultFits i (.frameOut f)) : i = .readMeas := by
  cases i <;> simp [resultFits] at h ⊢

/-- A result that is no error is the value its body returned. -/
theorem Ran.Returns.of_results {r : Ran Result} {Q : Result → Prop} (hr : r.Returns Q) {t : State} {l : List Result}
    {v : Result} (he : finish r = .next t) (hres : t.results = l ++ [v]) (hv : ∀ e, v ≠ .err e) : Q v := by
  cases r with
  | done w u =>
    obtain rfl := Host.Outcome.next.inj he
    exact eq_of_deliver_results hres ▸ hr
  | raised e u =>
    obtain rfl := Host.Outcome.next.inj he
    exact absurd (eq_of_deliver_results hres).symm (hv e)

theorem exec_readMeas_whole {s t : State} {f : Frame} (he : exec .readMeas s = .next t)
    (hres : t.results = s.results ++ [.frameOut f]) : f.v = allSections := by
  have delivered : ∀ v, exec .readMeas s = .next (s.deliver v) → v = .frameOut f := by
    intro v hv
    obtain rfl := Host.Outcome.next.inj (he.symm.trans hv)
    exact eq_of_deliver_results hres
  rcases exec_refused_or_ready (i := .readMeas) nofun s with ⟨e, hp⟩ | hs
  · exact absurd (delivered _ hp) nofun
  by_cases hm : s.ss = .measuring
  · rw [exec_readMeas hm hs] at he
    exact (measure_returns_whole s).of_results he hres nofun f rfl
  · exact absurd (delivered _ (exec_illegal rfl (beq_eq_false_iff_ne.mpr hm) hs)) nofun

/-- The window gains no frame but one that is pushed (R192). -/
theorem updatesKeep_wholeAdded (w : List Frame) : UpdatesKeep fun u => ∀ f ∈ u.wbuf, f ∈ w ∨ f.v = allSections where
  deliver _ _ h := h
  setEnv _ _ h := h
  fatal _ h := h
  attempted _ _ h := h
  setValid _ _ h := h
  push s f hf h := by
    have written : ∀ g ∈ pushWindow s.winN f s.wbuf, g ∈ w ∨ g.v = allSections := fun g hg =>
      (mem_pushWindow hg).elim (h g) fun heq => .inr (heq ▸ hf)
    rcases aggPush_cases f s with ⟨_, hp⟩ | ⟨_, _, hp⟩ | ⟨_, _, hp⟩ <;> rw [hp]
    · exact h
    · exact written
    · exact written
  setWindow _ _ _ _ := List.forall_mem_nil _

theorem writtenState_wbuf (cmd : BusCommand) (s : State) : (writtenState cmd s).wbuf = s.wbuf := by
  cases cmd <;> rfl

/-- The `INIT` that makes the session empties the window, or leaves it (R211). -/
theorem exec_init_wbuf {n : Nat} {s t : State} (hs : s.life = .uninit) (he : exec (.init n) s = .next t) :
    t.wbuf = s.wbuf ∨ t.wbuf = [] := by
  rw [exec_init n hs] at he
  split at he
  · exact .inl (Host.Outcome.next.inj he ▸ rfl)
  · split at he
    · exact .inl (Host.Outcome.next.inj he ▸ rfl)
    · exact .inr (Host.Outcome.next.inj he ▸ rfl)

theorem exec_wbuf_whole {i : Instr} {s t : State} (he : exec i s = .next t) :
    ∀ f ∈ t.wbuf, f ∈ s.wbuf ∨ f.v = allSections := by
  by_cases hmakes : ∃ n, i = .init n ∧ s.life = .uninit
  · obtain ⟨n, rfl, hs⟩ := hmakes
    rcases exec_init_wbuf hs he with h | h <;> rw [h]
    · exact fun f hf => .inl hf
    · exact List.forall_mem_nil _
  · refine (updatesKeep_wholeAdded s.wbuf).exec_keeps (fun f hf => .inl hf) (fun n hn hs => hmakes ⟨n, hn, hs⟩) ?_ he
    intro cmd u _ _ hu
    rwa [writtenState_wbuf]

theorem exec_addsWholeFrames {i : Instr} {s t : State} (he : exec i s = .next t) : s.AddsWholeFrames t where
  wbuf := exec_wbuf_whole he
  results f hf := by
    obtain ⟨t', r, _, he', hres, hfits, -⟩ := oneResultPerOperation i s
    obtain rfl := Host.Outcome.next.inj (he.symm.trans he')
    rw [hres] at hf
    refine (List.mem_append.mp hf).imp_right fun hlast => ?_
    obtain rfl := List.mem_singleton.mp hlast
    rcases hfits with ⟨e, herr⟩ | hfits
    · exact absurd herr nofun
    · obtain rfl := eq_readMeas_of_resultFits hfits
      exact exec_readMeas_whole he hres

/-! ### Frames that a step adds -/

theorem State.AddsWholeFrames.of_subset {s t : State}
    (hr : ∀ f, Result.frameOut f ∈ t.results → Result.frameOut f ∈ s.results) (hw : t.wbuf ⊆ s.wbuf) :
    s.AddsWholeFrames t :=
  ⟨fun f hf => .inl (hr f hf), fun _ hf => .inl (hw hf)⟩

theorem runRequest_addsWholeFrames {r : Request} {s t : State} (he : runRequest r s = .next t) : s.AddsWholeFrames t := by
  unfold runRequest at he
  split at he
  · exact exec_addsWholeFrames he
  · next opsel _ =>
    obtain ⟨e, hr⟩ := rejectUnknown_next opsel s
    obtain rfl := Host.Outcome.next.inj (he.symm.trans hr)
    exact .of_subset (fun f hf => by simpa using hf) (List.Subset.refl _)

/-- A hardware reset between operations adds no frame: the window is empty after it (R280). -/
theorem hardwareReset_addsWholeFrames (s : State) : s.AddsWholeFrames s.hardwareReset :=
  .of_subset (fun _ hf => hf) (List.nil_subset _)

/-- An interrupted operation adds no frame, whatever it would have returned (R287, R296). -/
theorem interrupt_addsWholeFrames {calls : Nat} {s t : State} {o : Host.Outcome State Fault Refusal}
    (he : interrupt calls s o = .next t) : s.AddsWholeFrames t := by
  cases o with
  | next u =>
    obtain rfl := Host.Outcome.next.inj he
    exact .of_subset (fun _ hf => hf) (List.nil_subset _)
  | fault f => exact nomatch f
  | refused r => exact nomatch he

theorem runMove_addsWholeFrames {m : HostMove} {s t : State} (he : runMove m s = .next t) : s.AddsWholeFrames t := by
  cases m with
  | operation r => exact runRequest_addsWholeFrames he
  | hardwareReset => exact Host.Outcome.next.inj he ▸ hardwareReset_addsWholeFrames s
  | interrupted r calls => exact interrupt_addsWholeFrames he

/-- Settles O38, by the move taken. -/
theorem noPartialFrameDelivered : Obligations.NoPartialFrameDelivered := by
  intro s t he
  have hadds : s.AddsWholeFrames t := by
    unfold step at he
    split at he
    · obtain rfl := Host.Outcome.next.inj he
      exact .of_subset (fun _ hf => hf) (List.Subset.refl _)
    · next ms _ =>
      obtain ⟨hresults, hwbuf⟩ := runMove_addsWholeFrames he
      exact ⟨hresults, hwbuf⟩
  exact ⟨hadds.results, hadds.wbuf⟩

end Sys2Proof.Machine
end

section
/-! The statements of steps, hardware resets and interrupted operations (spec/70_reset_and_hazards.md R280, R286, R287, R296),
and the bound of sixteen on the Transport calls of one operation. A request always ends in a next state whose call record
continues the earlier one (`runRequest_next`); an interruption replays a first part of that continuation. -/

namespace Sys2Proof.Machine

/-! ### One step -/

/-- Settles O4: the step takes the request, and its selector names the instruction. -/
theorem stepRunsDecodedInstruction : Obligations.StepRunsDecodedInstruction := by
  intro s r ms i hm hd
  simp only [step, hm, runMove, runRequest, hd]
  rfl

/-- Settles O7. -/
theorem hardwareResetRestoresTuple : Obligations.HardwareResetRestoresTuple := by
  intro s ms hm
  simp only [step, hm, runMove]
  rfl

/-! ### The number of Transport calls -/

theorem transactionFits_length_le {p : Params} {i : Instr} {c : List Call} (h : transactionFits p i c) : c.length ≤ 4 := by
  rcases h with rfl | ⟨n, o, -, rfl⟩ | ⟨cmd, -, ⟨q, rfl⟩ | ⟨-, rfl⟩ | ⟨-, r, rfl⟩ | ⟨-, q, rfl⟩⟩ <;> simp

/-- Three calls for each read done, and a fourth, the bus reset, only in the read that ends the chain (R286). -/
theorem readsFit_length_le {p : Params} {cmds : List BusCommand} {c : List Call} (h : readsFit p cmds c) :
    c.length ≤ 3 * cmds.length + 1 := by
  induction cmds generalizing c with
  | nil =>
    obtain rfl : c = [] := h
    simp
  | cons cmd cmds ih =>
    rcases h with ⟨q, rfl⟩ | ⟨q, rfl⟩ | ⟨raw, -, rfl⟩ | ⟨raw, c', -, rfl, hc'⟩
    · simp only [List.length_cons, List.length_nil]
      omega
    · simp only [List.length_cons, List.length_nil]
      omega
    · simp only [exchangeCalls, List.length_cons, List.length_nil]
      omega
    · have hrest := ih hc'
      simp only [exchangeCalls, List.length_append, List.length_cons, List.length_nil]
      omega

/-- Settles O43: five reads make at most sixteen calls, any other operation is one transaction. -/
theorem atMostSixteenCalls : Obligations.AtMostSixteenCalls := by
  intro i s t he
  obtain ⟨c, hc, hfit, hready, hrefused⟩ := busTransactionShape i s t he
  have hlen : c.length ≤ 16 := by
    by_cases hi : i = .deviceInfo
    · by_cases hs : s.life = .ready
      · exact readsFit_length_le (hready hi hs)
      · simp [hrefused hi hs]
    · exact (transactionFits_length_le (hfit hi)).trans (by omega)
  rw [hc, List.length_append]
  omega

/-! ### Interrupted operations -/

theorem Env.foldl_after_calls (c : List Call) (e : Env) : (c.foldl Env.after e).calls = e.calls ++ c := by
  induction c generalizing e with
  | nil => simp
  | cons x c ih => rw [List.foldl_cons, ih, Env.after_calls, List.append_assoc, List.singleton_append]

/-- The record of a cut operation is the first part of the uninterrupted one (R296). -/
theorem Env.cutOff_calls {before after : Env} {c : List Call} (h : after.calls = before.calls ++ c) (k : Nat) :
    (before.cutOff after k).calls = after.calls.take (before.calls.length + k) := by
  rw [Env.cutOff, Env.foldl_after_calls, h, List.drop_left, List.take_length_add_append]

/-- A request ends in a next state, and its Transport calls come after the earlier ones (R91, R262, R286). -/
theorem runRequest_next (r : Request) (s : State) :
    ∃ u c, runRequest r s = .next u ∧ u.env.calls = s.env.calls ++ c := by
  unfold runRequest
  split
  · next i _ =>
    obtain ⟨u, -, c, he, -, -, -, -, hcalls⟩ := oneResultPerOperation i s
    exact ⟨u, c, he, hcalls⟩
  · next opsel _ =>
    obtain ⟨e, he⟩ := rejectUnknown_next opsel s
    exact ⟨_, [], he, (List.append_nil _).symm⟩

theorem step_interrupted {s u : State} {r : Request} {k : Nat} {ms : List HostMove}
    (hm : s.moves = .interrupted r k :: ms) (hu : runRequest r (s.setMoves ms) = .next u) :
    step s = .next ((s.setMoves ms).setEnv (s.env.cutOff u.env k)).hardwareReset := by
  simp only [step, hm, runMove, hu]
  rfl

/-- Settles O8: the hardware reset writes the whole tuple, and the cut environment has the first `k` calls on record. -/
theorem interruptedOperationResets : Obligations.InterruptedOperationResets := by
  intro s r k ms hm
  obtain ⟨u, c, hu, hcalls⟩ := runRequest_next r (s.setMoves ms)
  exact ⟨u, _, hu, step_interrupted hm hu, rfl, rfl, rfl, rfl, Env.cutOff_calls hcalls k⟩

end Sys2Proof.Machine
end

section
/-! SUPPORT. How a magnitude is rounded (spec/45_rolling_aggregator.md R196): the two candidates, and the three facts the mean
rests on: the result is representable, no representable magnitude is nearer, and a tie is kept even. -/

namespace Sys2Proof.Machine

/-! ### Representable magnitudes -/

/-- A significand of `2^24` is one of `2^23` at the next exponent. -/
theorem representable_of_le {a : Nat} (h : a ≤ 2 ^ 24) (e : Nat) : Representable (a * 2 ^ e) := by
  by_cases ha : a = 2 ^ 24
  · exact ⟨2 ^ 23, e + 1, by omega, by rw [ha, pow_succ]; omega⟩
  · exact ⟨a, e, by omega, rfl⟩

theorem representable_zero : Representable 0 := ⟨0, 0, by omega, rfl⟩

/-- Between two neighbouring significands at exponent `k` there is no representable magnitude, when the lower of them is
normalised or the exponent is the least (gradual underflow). -/
theorem Representable.le_or_le {m : Nat} (h : Representable m) {n k : Nat} (hk : k = 0 ∨ 2 ^ 23 ≤ n) :
    m ≤ n * 2 ^ k ∨ (n + 1) * 2 ^ k ≤ m := by
  obtain ⟨a, e, ha, rfl⟩ := h
  by_cases hke : k ≤ e
  · obtain ⟨j, rfl⟩ := Nat.exists_eq_add_of_le hke
    have hmul : a * 2 ^ (k + j) = a * 2 ^ j * 2 ^ k := by rw [pow_add]; ring
    rw [hmul]
    rcases Nat.lt_or_ge n (a * 2 ^ j) with hlt | hge
    · exact .inr (Nat.mul_le_mul_right _ hlt)
    · exact .inl (Nat.mul_le_mul_right _ hge)
  · have hn : 2 ^ 23 ≤ n := by omega
    refine .inl ?_
    calc a * 2 ^ e ≤ 2 ^ 24 * 2 ^ e := Nat.mul_le_mul_right _ ha.le
      _ = 2 ^ 23 * 2 ^ (e + 1) := by rw [pow_succ 2 e]; omega
      _ ≤ n * 2 ^ k := Nat.mul_le_mul hn (Nat.pow_le_pow_right (by omega) (by omega))

/-! ### The two candidates -/

/-- The exponent to which a quotient is rounded: that of a 24-bit significand, or the least. -/
def roundExponent (p q : Nat) : Nat := Nat.log2 (p / q) - 23

/-- The significand below a quotient, at its exponent. -/
def truncated (p q : Nat) : Nat := p / (q * 2 ^ roundExponent p q)

/-- What truncation leaves of a quotient, in `q`-ths of a unit. -/
def remainder (p q : Nat) : Nat := p % (q * 2 ^ roundExponent p q)

/-- Whether the upper candidate is taken: it is the nearer one, or it is as near and the lower one is odd. -/
def RoundsUp (p q : Nat) : Prop :=
  q * 2 ^ roundExponent p q < 2 * remainder p q ∨
    2 * remainder p q = q * 2 ^ roundExponent p q ∧ truncated p q % 2 = 1

theorem roundUnits_of_up {p q : Nat} (h : RoundsUp p q) : roundUnits p q = (truncated p q + 1) * 2 ^ roundExponent p q :=
  congrArg (· * 2 ^ roundExponent p q) (if_pos h)

theorem roundUnits_of_not_up {p q : Nat} (h : ¬ RoundsUp p q) : roundUnits p q = truncated p q * 2 ^ roundExponent p q :=
  congrArg (· * 2 ^ roundExponent p q) (if_neg h)

theorem truncated_add_remainder (p q : Nat) :
    q * (truncated p q * 2 ^ roundExponent p q) + remainder p q = p := by
  rw [mul_left_comm, mul_comm, truncated, remainder]
  exact Nat.div_add_mod _ _

theorem truncated_lt (p q : Nat) : truncated p q < 2 ^ 24 := by
  rw [truncated, ← Nat.div_div_eq_div_mul]
  refine Nat.div_lt_of_lt_mul ?_
  calc p / q < 2 ^ ((p / q).log2 + 1) := Nat.lt_log2_self
    _ ≤ 2 ^ (roundExponent p q + 24) := Nat.pow_le_pow_right (by omega) (by unfold roundExponent; omega)
    _ = 2 ^ roundExponent p q * 2 ^ 24 := pow_add _ _ _

/-- The lower candidate is normalised unless the exponent is the least. -/
theorem roundExponent_eq_zero_or_normalised (p q : Nat) : roundExponent p q = 0 ∨ 2 ^ 23 ≤ truncated p q := by
  by_cases h : (p / q).log2 ≤ 23
  · exact .inl (Nat.sub_eq_zero_of_le h)
  · have hpos : p / q ≠ 0 := by
      intro h0
      simp [h0] at h
    refine .inr ?_
    rw [truncated, ← Nat.div_div_eq_div_mul, Nat.le_div_iff_mul_le (by positivity), ← pow_add]
    calc 2 ^ (23 + roundExponent p q) = 2 ^ (p / q).log2 := by congr 1; unfold roundExponent; omega
      _ ≤ p / q := Nat.log2_self_le hpos

section
variable {p q : Nat}

theorem remainder_lt (hq : 0 < q) : remainder p q < q * 2 ^ roundExponent p q := Nat.mod_lt _ (by positivity)

/-- The result as a significand and an exponent; on a tie the significand is even. -/
theorem roundUnits_form (p q : Nat) : ∃ a, roundUnits p q = a * 2 ^ roundExponent p q ∧ a ≤ 2 ^ 24 ∧
    (roundExponent p q = 0 ∨ 2 ^ 23 ≤ a) ∧ (2 * remainder p q = q * 2 ^ roundExponent p q → a % 2 = 0) := by
  have hlt := truncated_lt p q
  have hnorm := roundExponent_eq_zero_or_normalised p q
  by_cases h : RoundsUp p q
  · refine ⟨_, roundUnits_of_up h, hlt, hnorm.imp_right (by omega), fun htie => ?_⟩
    rcases h with h | h <;> omega
  · refine ⟨_, roundUnits_of_not_up h, hlt.le, hnorm, fun htie => ?_⟩
    have hodd : ¬ truncated p q % 2 = 1 := fun hodd => h (.inr ⟨htie, hodd⟩)
    omega

theorem representable_roundUnits (p q : Nat) : Representable (roundUnits p q) := by
  obtain ⟨a, ha, hle, -, -⟩ := roundUnits_form p q
  rw [ha]
  exact representable_of_le hle _

/-! ### Distances -/

/-- The lower candidate is below the quotient by the remainder. -/
theorem sub_lower (p q : Nat) : (p : Int) - q * (truncated p q * 2 ^ roundExponent p q) = remainder p q := by
  have hp : (q : Int) * (truncated p q * 2 ^ roundExponent p q) + remainder p q = p :=
    mod_cast truncated_add_remainder p q
  linarith

/-- The distance of the result from the quotient, in `q`-ths of a unit: the smaller of those of the two candidates. -/
theorem abs_sub_roundUnits (hq : 0 < q) : |(p : Int) - q * roundUnits p q| =
    min (remainder p q : Int) (q * 2 ^ roundExponent p q - remainder p q) := by
  have hp := sub_lower p q
  have hr : (remainder p q : Int) < q * 2 ^ roundExponent p q := mod_cast remainder_lt hq
  by_cases h : RoundsUp p q
  · have hup : (p : Int) - q * roundUnits p q = -(q * 2 ^ roundExponent p q - remainder p q) := by
      rw [roundUnits_of_up h]
      push_cast
      linarith
    have hle : (q * 2 ^ roundExponent p q : Int) ≤ 2 * remainder p q := by
      rcases h with h | ⟨h, -⟩
      · exact mod_cast h.le
      · exact mod_cast h.ge
    rw [hup, abs_neg, abs_of_pos (by linarith), min_eq_right (by linarith)]
  · have hdown : (p : Int) - q * roundUnits p q = remainder p q := by
      rw [roundUnits_of_not_up h]
      push_cast
      exact hp
    have hle : (2 * remainder p q : Int) ≤ q * 2 ^ roundExponent p q := mod_cast not_lt.mp fun hlt => h (.inl hlt)
    rw [hdown, abs_of_nonneg (by positivity), min_eq_left (by linarith)]

/-- A magnitude on or below the lower candidate is at least as far from the quotient, and as far only if it is the candidate. -/
theorem remainder_le_abs_sub {m : Nat} (hq : 0 < q) (h : m ≤ truncated p q * 2 ^ roundExponent p q) :
    (remainder p q : Int) ≤ |(p : Int) - q * m| ∧
      (|(p : Int) - q * m| = remainder p q → m = truncated p q * 2 ^ roundExponent p q) := by
  have hp := sub_lower p q
  obtain ⟨j, hj⟩ := Nat.exists_eq_add_of_le h
  have hdist : (p : Int) - q * m = remainder p q + q * j := by
    have hj' : (truncated p q * 2 ^ roundExponent p q : Int) = m + j := mod_cast hj
    rw [hj'] at hp
    linarith
  rw [hdist, abs_of_nonneg (by positivity)]
  refine ⟨le_add_of_nonneg_right (by positivity), fun he => ?_⟩
  have hzero : (q : Int) * j = 0 := add_eq_left.mp he
  have hj0 : j = 0 := (Nat.mul_eq_zero.mp (mod_cast hzero)).resolve_left hq.ne'
  rw [hj, hj0, Nat.add_zero]

/-- A magnitude on or above the upper candidate is at least as far from the quotient, and as far only if it is the candidate. -/
theorem sub_remainder_le_abs_sub {m : Nat} (hq : 0 < q) (h : (truncated p q + 1) * 2 ^ roundExponent p q ≤ m) :
    (q * 2 ^ roundExponent p q - remainder p q : Int) ≤ |(p : Int) - q * m| ∧
      (|(p : Int) - q * m| = q * 2 ^ roundExponent p q - remainder p q →
        m = (truncated p q + 1) * 2 ^ roundExponent p q) := by
  have hp := sub_lower p q
  have hr : (remainder p q : Int) < q * 2 ^ roundExponent p q := mod_cast remainder_lt hq
  obtain ⟨j, rfl⟩ := Nat.exists_eq_add_of_le h
  have hdist : (p : Int) - q * ((truncated p q + 1) * 2 ^ roundExponent p q + j : Nat) =
      -(q * 2 ^ roundExponent p q - remainder p q + q * j) := by
    push_cast
    linarith
  have hpos : (0 : Int) ≤ q * j := by positivity
  rw [hdist, abs_neg, abs_of_pos (by linarith)]
  refine ⟨by linarith, fun he => ?_⟩
  have hzero : (q : Int) * j = 0 := add_eq_left.mp he
  have hj0 : j = 0 := (Nat.mul_eq_zero.mp (mod_cast hzero)).resolve_left hq.ne'
  rw [hj0, Nat.add_zero]

/-- No representable magnitude is nearer to the quotient than the result. -/
theorem roundUnits_nearest (hq : 0 < q) {m : Nat} (hm : Representable m) :
    |(p : Int) - q * roundUnits p q| ≤ |(p : Int) - q * m| := by
  rw [abs_sub_roundUnits hq]
  rcases hm.le_or_le (roundExponent_eq_zero_or_normalised p q) with h | h
  · exact (min_le_left _ _).trans (remainder_le_abs_sub hq h).1
  · exact (min_le_right _ _).trans (sub_remainder_le_abs_sub hq h).1

/-- Another representable magnitude as near as the result means that the quotient is half-way between the candidates. -/
theorem halfway_of_tie (hq : 0 < q) {m : Nat} (hm : Representable m) (hne : m ≠ roundUnits p q)
    (htie : |(p : Int) - q * roundUnits p q| = |(p : Int) - q * m|) :
    2 * remainder p q = q * 2 ^ roundExponent p q := by
  rw [abs_sub_roundUnits hq] at htie
  rcases lt_trichotomy (2 * remainder p q) (q * 2 ^ roundExponent p q) with hlt | heq | hgt
  · have hdown : ¬ RoundsUp p q := by
      rintro (h | h) <;> omega
    have hlt' : (2 * remainder p q : Int) < q * 2 ^ roundExponent p q := mod_cast hlt
    rw [roundUnits_of_not_up hdown] at hne
    rw [min_eq_left (by linarith)] at htie
    rcases hm.le_or_le (roundExponent_eq_zero_or_normalised p q) with h | h
    · exact absurd ((remainder_le_abs_sub hq h).2 htie.symm) hne
    · have := (sub_remainder_le_abs_sub hq h).1
      linarith
  · exact heq
  · have hup : RoundsUp p q := .inl hgt
    have hgt' : (q * 2 ^ roundExponent p q : Int) < 2 * remainder p q := mod_cast hgt
    rw [roundUnits_of_up hup] at hne
    rw [min_eq_right (by linarith)] at htie
    rcases hm.le_or_le (roundExponent_eq_zero_or_normalised p q) with h | h
    · have := (remainder_le_abs_sub hq h).1
      linarith
    · exact absurd ((sub_remainder_le_abs_sub hq h).2 htie.symm) hne

/-- Ties are kept even. -/
theorem roundUnits_even_of_tie (hq : 0 < q) {m : Nat} (hm : Representable m) (hne : m ≠ roundUnits p q)
    (htie : |(p : Int) - q * roundUnits p q| = |(p : Int) - q * m|) :
    ∃ a e : Nat, roundUnits p q = a * 2 ^ e ∧ a % 2 = 0 ∧ a ≤ 2 ^ 24 ∧ (e = 0 ∨ 2 ^ 23 ≤ a) := by
  obtain ⟨a, ha, hle, hnorm, heven⟩ := roundUnits_form p q
  exact ⟨a, _, ha, heven (halfway_of_tie hq hm hne htie), hle, hnorm⟩

/-- Rounding does not pass a representable bound. -/
theorem roundUnits_le (hq : 0 < q) {m : Nat} (hm : Representable m) (h : p ≤ q * m) : roundUnits p q ≤ m := by
  by_contra hlt
  have hnear := roundUnits_nearest (p := p) hq hm
  have hp : (p : Int) ≤ q * m := mod_cast h
  have hmul : (q * m : Int) < q * roundUnits p q := mod_cast Nat.mul_lt_mul_of_pos_left (not_le.mp hlt) hq
  rw [abs_of_nonpos (by linarith), abs_of_nonpos (by linarith)] at hnear
  linarith

/-- A representable quotient is kept. -/
theorem roundUnits_exact (hq : 0 < q) {m : Nat} (hm : Representable m) : roundUnits (m * q) q = m := by
  have hnear := roundUnits_nearest (p := m * q) hq hm
  have hzero : ((m * q : Nat) : Int) - q * m = 0 := by
    push_cast
    ring
  rw [hzero, abs_zero] at hnear
  have heq : ((m * q : Nat) : Int) = q * roundUnits (m * q) q := sub_eq_zero.mp (abs_nonpos_iff.mp hnear)
  exact (Nat.eq_of_mul_eq_mul_left hq ((Nat.mul_comm q m).trans (mod_cast heq))).symm

end

end Sys2Proof.Machine
end

section
/-! The statements of the default mean (spec/45_rolling_aggregator.md R196, R204, R205). A sum or a quotient is always the value
of a word (`FloatValue.InFormat`), so the mean word has the value of the quotient (`f32Val_mean32`) and each statement is about
the running sum: exact (`floatSum_hasUnits`), never a NaN on finite words, kept at an infinity or at a NaN once there. -/

namespace Sys2Proof.Machine

/-! ### The values of words -/

/-- A value that a word can have (R162). -/
def FloatValue.InFormat : FloatValue → Prop
  | .nan => True
  | .infinity _ => True
  | .finite _ m => Representable m ∧ m < overflowUnits

theorem f32Val_wordOfFloat (nan : NaNWord) {v : FloatValue} (h : v.InFormat) : f32Val (wordOfFloat nan v) = v := by
  cases v with
  | nan => exact f32Val_wordOfFloat_nan nan
  | infinity s => exact f32Val_wordOfFloat_infinity nan s
  | finite s m => exact f32Val_wordOfFloat_finite nan s h.1 h.2

theorem wordOfFloat_subnormal (nan : NaNWord) (s : Bool) {f : Nat} (hf : f < 2 ^ 23) :
    wordOfFloat nan (.finite s f) = floatWord s 0 f :=
  if_pos hf

theorem wordOfFloat_normal (nan : NaNWord) (s : Bool) {e f : Nat} (he : 1 ≤ e) (hf : f < 2 ^ 23) :
    wordOfFloat nan (.finite s ((2 ^ 23 + f) * 2 ^ (e - 1))) = floatWord s e f := by
  have hpos : 0 < 2 ^ (e - 1) := by positivity
  have hge : ¬ (2 ^ 23 + f) * 2 ^ (e - 1) < 2 ^ 23 :=
    not_lt.mpr ((Nat.le_add_right _ f).trans (Nat.le_mul_of_pos_right _ hpos))
  have hlog : ((2 ^ 23 + f) * 2 ^ (e - 1)).log2 = 23 + (e - 1) := by
    rw [Nat.log2_eq_iff (by positivity), Nat.pow_add, Nat.add_right_comm, Nat.pow_add _ _ (e - 1)]
    exact ⟨Nat.mul_le_mul_right _ (Nat.le_add_right _ _), Nat.mul_lt_mul_of_pos_right (by omega) hpos⟩
  rw [wordOfFloat, if_neg hge, hlog, Nat.add_sub_cancel_left, Nat.mul_div_cancel _ hpos, Nat.add_sub_cancel_left,
    show 23 + (e - 1) - 22 = e by omega]

/-- A word that is no NaN is the word of its value (R163). -/
theorem wordOfFloat_f32Val (nan : NaNWord) {w : Word} (h : f32Val w ≠ .nan) : wordOfFloat nan (f32Val w) = w := by
  have hf := floatFraction_lt w
  have hw := floatWord_fields w
  rcases f32Class_cases w with ⟨e0, f0, -⟩ | ⟨e0, f0, -⟩ | ⟨⟨h1, h254⟩, -⟩ | ⟨e255, f0, -⟩ | ⟨e255, f0, -⟩
  · rw [f32Val_of_zero e0 f0, wordOfFloat_subnormal nan _ (by omega)]
    rwa [e0, f0] at hw
  · rw [f32Val_of_subnormal e0 f0, wordOfFloat_subnormal nan _ hf]
    rwa [e0] at hw
  · rw [f32Val_of_normal h1 h254, wordOfFloat_normal nan _ h1 hf, hw]
  · rw [f32Val_of_infinity e255 f0]
    rwa [e255, f0] at hw
  · exact absurd (f32Val_of_nan e255 f0) h

/-! ### Rounded values -/

theorem overflowUnits_eq : overflowUnits = 2 ^ 128 * 2 ^ 149 := by norm_num [overflowUnits]

theorem inFormat_roundFloat (negative : Bool) (p q : Nat) : (roundFloat negative p q).InFormat := by
  unfold roundFloat
  split
  · trivial
  · next h => exact ⟨representable_roundUnits p q, not_le.mp h⟩

theorem roundFloat_of_lt {negative : Bool} {p q : Nat} (h : roundUnits p q < overflowUnits) :
    roundFloat negative p q = .finite negative (roundUnits p q) :=
  if_neg (not_le.mpr h)

theorem roundFloat_exact (negative : Bool) {m q : Nat} (hq : 0 < q) (hm : Representable m) (hlt : m < overflowUnits) :
    roundFloat negative (m * q) q = .finite negative m := by
  rw [roundFloat_of_lt (by rwa [roundUnits_exact hq hm]), roundUnits_exact hq hm]

theorem roundFloat_exact_one (negative : Bool) {m : Nat} (hm : Representable m) (hlt : m < overflowUnits) :
    roundFloat negative m 1 = .finite negative m := by
  have h := roundFloat_exact negative Nat.one_pos hm hlt
  rwa [Nat.mul_one] at h

theorem cvt32_eq {n : Nat} (hn : n ≤ 2 ^ 24) : cvt32 n = .finite false (n * 2 ^ 149) := by
  refine roundFloat_exact_one false (representable_of_le hn 149) ?_
  calc n * 2 ^ 149 ≤ 2 ^ 24 * 2 ^ 149 := Nat.mul_le_mul_right _ hn
    _ < overflowUnits := Nat.mul_lt_mul_of_pos_left (Nat.pow_lt_pow_right (by omega) (by omega)) (by positivity)

/-! ### Sums and quotients -/

theorem toInt_finite_neg_iff {a : Bool} {m : Nat} (h : (FloatValue.finite a m).toInt ≠ 0) :
    (FloatValue.finite a m).toInt < 0 ↔ a = true := by
  cases a with
  | false => simp [FloatValue.toInt]
  | true =>
    simp only [FloatValue.toInt, if_true, iff_true] at h ⊢
    omega

@[simp] theorem toInt_finite_natAbs (a : Bool) (m : Nat) : (FloatValue.finite a m).toInt.natAbs = m := by
  cases a <;> simp [FloatValue.toInt]

/-- Terms of one sign add their magnitudes, with that sign. -/
theorem toInt_add_same (a : Bool) (m n : Nat) :
    (FloatValue.finite a m).toInt + (FloatValue.finite a n).toInt = (FloatValue.finite a (m + n)).toInt := by
  cases a with
  | false => exact (Nat.cast_add m n).symm
  | true =>
    simp only [FloatValue.toInt, if_true]
    omega

/-- Terms of opposite signs leave the difference of their magnitudes, with the sign of the larger. -/
theorem toInt_add_opposite {a b : Bool} (hab : a ≠ b) {m n : Nat} (h : n ≤ m) :
    (FloatValue.finite a m).toInt + (FloatValue.finite b n).toInt = (FloatValue.finite a (m - n)).toInt := by
  obtain rfl : b = !a := Bool.eq_not_iff.mpr hab.symm
  cases a with
  | false =>
    simp only [FloatValue.toInt, Bool.not_false, Bool.false_eq_true, if_false, if_true]
    omega
  | true =>
    simp only [FloatValue.toInt, Bool.not_true, Bool.false_eq_true, if_false, if_true]
    omega

/-- The rounded value of a magnitude not zero, from its signed units. -/
theorem roundFloat_toInt {a : Bool} {m : Nat} (hm : m ≠ 0) :
    roundFloat (decide ((FloatValue.finite a m).toInt < 0)) (FloatValue.finite a m).toInt.natAbs 1 = roundFloat a m 1 := by
  have hz : (FloatValue.finite a m).toInt ≠ 0 := by rwa [← Int.natAbs_ne_zero, toInt_finite_natAbs]
  simp only [toInt_finite_neg_iff hz, toInt_finite_natAbs, Bool.decide_eq_true]

theorem roundFloat_zero (negative : Bool) {q : Nat} (hq : 0 < q) : roundFloat negative 0 q = .finite negative 0 := by
  have h := roundFloat_exact negative hq representable_zero (by unfold overflowUnits; positivity)
  rwa [Nat.zero_mul] at h

/-- A sum of finite values is their exact sum, rounded once; a zero sum is `+0.0` unless both terms are negative. -/
theorem fadd32_finite (a b : Bool) (m n : Nat) {z : Int}
    (hz : (FloatValue.finite a m).toInt + (FloatValue.finite b n).toInt = z) :
    fadd32 (.finite a m) (.finite b n) = if z = 0 then .finite (a && b) 0 else roundFloat (decide (z < 0)) z.natAbs 1 := by
  by_cases hab : a = b
  · subst hab
    rw [← hz, toInt_add_same, fadd32, if_pos rfl]
    by_cases h0 : m + n = 0
    · rw [h0, roundFloat_zero a Nat.one_pos, Bool.and_self, if_pos (by simp [FloatValue.toInt])]
    · rw [roundFloat_toInt h0, if_neg (by rwa [← Int.natAbs_eq_zero, toInt_finite_natAbs])]
  · rw [fadd32, if_neg hab]
    rcases lt_trichotomy n m with hlt | rfl | hlt
    · have h0 : m - n ≠ 0 := by omega
      rw [← hz, toInt_add_opposite hab hlt.le, roundFloat_toInt h0, if_neg hlt.ne', if_pos hlt,
        if_neg (by rwa [← Int.natAbs_eq_zero, toInt_finite_natAbs])]
    · rw [← hz, toInt_add_opposite hab le_rfl, Nat.sub_self, if_pos rfl, if_pos (by simp [FloatValue.toInt])]
      rw [Bool.eq_not_iff.mpr hab, Bool.not_and_self]
    · have h0 : n - m ≠ 0 := by omega
      rw [← hz, add_comm, toInt_add_opposite (Ne.symm hab) hlt.le, roundFloat_toInt h0, if_neg hlt.ne, if_neg hlt.not_gt,
        if_neg (by rwa [← Int.natAbs_eq_zero, toInt_finite_natAbs])]

theorem fdiv32_finite (a b : Bool) (m : Nat) {n : Nat} (hn : n ≠ 0) :
    fdiv32 (.finite a m) (.finite b n) = roundFloat (a != b) (m * 2 ^ 149) n :=
  if_neg hn

theorem inFormat_zero (negative : Bool) : (FloatValue.finite negative 0).InFormat :=
  ⟨representable_zero, by unfold overflowUnits; positivity⟩

theorem inFormat_fadd32 (x y : FloatValue) : (fadd32 x y).InFormat := by
  cases x with
  | nan => trivial
  | infinity a =>
    cases y with
    | nan => trivial
    | infinity b =>
      rw [fadd32]
      split <;> trivial
    | finite b n => trivial
  | finite a m =>
    cases y with
    | nan => trivial
    | infinity b => trivial
    | finite b n =>
      rw [fadd32_finite a b m n rfl]
      split
      · exact inFormat_zero _
      · exact inFormat_roundFloat _ _ _

theorem inFormat_fdiv32 (x y : FloatValue) : (fdiv32 x y).InFormat := by
  cases x with
  | nan => trivial
  | infinity a => cases y <;> trivial
  | finite a m =>
    cases y with
    | nan => trivial
    | infinity b => exact inFormat_zero _
    | finite b n =>
      by_cases hn : n = 0
      · rw [fdiv32, if_pos hn]
        split <;> trivial
      · rw [fdiv32_finite a b m hn]
        exact inFormat_roundFloat _ _ _

/-- The mean word has the value of the quotient, a NaN included. -/
theorem f32Val_mean32 (ws : List Word) : f32Val (mean32 .binary32 ws) = fdiv32 (floatSum ws) (cvt32 ws.length) :=
  f32Val_wordOfFloat _ (inFormat_fdiv32 _ _)

/-! ### The running sum -/

theorem floatSum_concat (ws : List Word) (w : Word) : floatSum (ws ++ [w]) = fadd32 (floatSum ws) (f32Val w) := by
  simp [floatSum]

/-- What holds of a value and is kept by adding any word of `ws` holds of the sum of `l ++ ws`, if it holds of that of `l`. -/
theorem floatSum_append_induction {P : FloatValue → Prop} {l ws : List Word} (h0 : P (floatSum l))
    (hadd : ∀ acc, P acc → ∀ w ∈ ws, P (fadd32 acc (f32Val w))) : P (floatSum (l ++ ws)) := by
  rw [floatSum, List.foldl_append]
  exact List.foldlRecOn ws _ h0 hadd

theorem floatSum_induction {P : FloatValue → Prop} {ws : List Word} (h0 : P (.finite false 0))
    (hadd : ∀ acc, P acc → ∀ w ∈ ws, P (fadd32 acc (f32Val w))) : P (floatSum ws) :=
  floatSum_append_induction (l := []) h0 hadd

theorem inFormat_floatSum (ws : List Word) : (floatSum ws).InFormat :=
  floatSum_induction (inFormat_zero false) fun acc _ w _ => inFormat_fadd32 acc (f32Val w)

/-- Settles O55: the facts about `roundUnits`, then one equation for each operation that rounds. -/
theorem roundingIsNearestEven : Obligations.RoundingIsNearestEven := by
  have hrounded : ∀ negative p q, roundFloat negative p q =
      if 2 ^ 128 * 2 ^ 149 ≤ roundUnits p q then .infinity negative else .finite negative (roundUnits p q) := by
    intro negative p q
    rw [roundFloat, overflowUnits_eq]
  refine ⟨fun p q hq => ⟨representable_roundUnits p q, fun m hm => roundUnits_nearest hq hm,
      fun m hm hne htie => roundUnits_even_of_tie hq hm hne htie⟩, fun a b m n => ?_, fun a b m n hn => ?_,
    fun n hn => cvt32_eq hn, rfl, floatSum_concat, fun ws _ _ => f32Val_mean32 ws⟩
  · exact (fadd32_finite a b m n rfl).trans (by rw [hrounded])
  · exact (fdiv32_finite a b m hn).trans (hrounded _ _ _)

/-! ### Exact sums and quotients -/

/-- The value is finite and worth `z` units. -/
def FloatValue.HasUnits (v : FloatValue) (z : Int) : Prop := v.isFinite = true ∧ v.toInt = z

/-- A value worth `z` units has the magnitude of `z`, and its sign unless it is a zero. -/
theorem FloatValue.hasUnits_iff {v : FloatValue} {z : Int} :
    v.HasUnits z ↔ ∃ s, v = .finite s z.natAbs ∧ (z ≠ 0 → s = decide (z < 0)) := by
  constructor
  · rintro ⟨hfin, rfl⟩
    cases v with
    | nan => exact absurd hfin (by simp [isFinite])
    | infinity s => exact absurd hfin (by simp [isFinite])
    | finite s m => exact ⟨s, by rw [toInt_finite_natAbs], fun h => by simp only [toInt_finite_neg_iff h, Bool.decide_eq_true]⟩
  · rintro ⟨s, rfl, hs⟩
    refine ⟨rfl, ?_⟩
    by_cases h0 : z = 0
    · simp [h0, toInt]
    · rw [hs h0]
      by_cases hneg : z < 0
      · simp only [toInt, hneg, decide_true, if_true]
        omega
      · simp only [toInt, hneg, decide_false, Bool.false_eq_true, if_false]
        omega

theorem FloatValue.HasUnits.unique {v w : FloatValue} {z : Int} (hv : v.HasUnits z) (hw : w.HasUnits z) (hz : z ≠ 0) :
    v = w := by
  obtain ⟨s, rfl, hs⟩ := hasUnits_iff.mp hv
  obtain ⟨s', rfl, hs'⟩ := hasUnits_iff.mp hw
  rw [hs hz, hs' hz]

/-- A sum that is representable is exact (P2). -/
theorem hasUnits_fadd32 {x y : FloatValue} {a b : Int} (hx : x.HasUnits a) (hy : y.HasUnits b)
    (hrep : Representable (a + b).natAbs) (hlt : (a + b).natAbs < overflowUnits) :
    (fadd32 x y).HasUnits (a + b) := by
  obtain ⟨s, rfl, -⟩ := FloatValue.hasUnits_iff.mp hx
  obtain ⟨s', rfl, -⟩ := FloatValue.hasUnits_iff.mp hy
  rw [fadd32_finite s s' _ _ (congrArg₂ (· + ·) hx.2 hy.2)]
  by_cases h0 : a + b = 0
  · rw [if_pos h0, h0]
    exact FloatValue.hasUnits_iff.mpr ⟨_, rfl, fun h => absurd rfl h⟩
  · rw [if_neg h0, roundFloat_exact_one _ hrep hlt]
    exact FloatValue.hasUnits_iff.mpr ⟨_, rfl, fun _ => rfl⟩

/-- A quotient by a count that is representable is exact (P2). -/
theorem hasUnits_fdiv32 {x : FloatValue} {n : Nat} {q : Int} (hx : x.HasUnits (n * q)) (hn : 0 < n)
    (hrep : Representable q.natAbs) (hlt : q.natAbs < overflowUnits) :
    (fdiv32 x (.finite false (n * 2 ^ 149))).HasUnits q := by
  obtain ⟨s, rfl, hs⟩ := FloatValue.hasUnits_iff.mp hx
  have hpos : 0 < n * 2 ^ 149 := by positivity
  have hscale : (n * q).natAbs * 2 ^ 149 = q.natAbs * (n * 2 ^ 149) := by
    rw [Int.natAbs_mul, Int.natAbs_natCast]
    ring
  rw [fdiv32_finite _ _ _ hpos.ne', hscale, roundFloat_exact _ hpos hrep hlt, Bool.bne_false]
  have hn' : (0 : Int) < n := mod_cast hn
  refine FloatValue.hasUnits_iff.mpr ⟨s, rfl, fun hq => ?_⟩
  rw [hs (mul_ne_zero hn'.ne' hq)]
  simp only [mul_neg_iff, hn', hn'.not_gt, true_and, false_and, or_false]

/-- The exact sum of finite words, in units. -/
def unitsSum (ws : List Word) : Int := (ws.map fun w => (f32Val w).toInt).sum

theorem unitsSum_concat (ws : List Word) (w : Word) : unitsSum (ws ++ [w]) = unitsSum ws + (f32Val w).toInt := by
  simp [unitsSum]

/-- Representable partial sums are all exact. -/
theorem floatSum_hasUnits {ws : List Word} (hfin : ∀ w ∈ ws, (f32Val w).isFinite = true)
    (hrep : ∀ k ≤ ws.length, Representable (unitsSum (ws.take k)).natAbs ∧ (unitsSum (ws.take k)).natAbs < overflowUnits) :
    (floatSum ws).HasUnits (unitsSum ws) := by
  induction ws using List.reverseRecOn with
  | nil => exact ⟨rfl, rfl⟩
  | append_singleton ws w ih =>
    have hprefix : (floatSum ws).HasUnits (unitsSum ws) := by
      refine ih (fun v hv => hfin v (List.mem_append_left _ hv)) fun k hk => ?_
      rw [← List.take_append_of_le_length (l₂ := [w]) hk]
      exact hrep k (by rw [List.length_append]; omega)
    obtain ⟨hr, hlt⟩ := hrep _ le_rfl
    rw [List.take_length, unitsSum_concat] at hr hlt
    rw [floatSum_concat, unitsSum_concat]
    exact hasUnits_fadd32 hprefix ⟨hfin w (by simp), rfl⟩ hr hlt

theorem f32Val_mean32_of_le {ws : List Word} (h : ws.length ≤ 2 ^ 24) :
    f32Val (mean32 .binary32 ws) = fdiv32 (floatSum ws) (.finite false (ws.length * 2 ^ 149)) := by
  rw [f32Val_mean32, cvt32_eq h]

/-- Settles O56: the sum is exact, and so is its quotient. -/
theorem defaultMeanIsExact : Obligations.DefaultMeanIsExact := by
  intro ws h1 hle hfin hrep q hq hqrep
  have hsum : (floatSum ws).HasUnits (ws.length * q) := hq ▸ floatSum_hasUnits hfin hrep
  have hlt : q.natAbs < overflowUnits := by
    obtain ⟨-, hlt⟩ := hrep _ le_rfl
    rw [List.take_length, hq, Int.natAbs_mul, Int.natAbs_natCast] at hlt
    exact (Nat.le_mul_of_pos_left _ (by omega)).trans_lt hlt
  rw [f32Val_mean32_of_le hle]
  exact hasUnits_fdiv32 hsum (by omega) hqrep hlt

/-! ### A constant window -/

theorem unitsSum_replicate (k : Nat) (x : Word) : unitsSum (List.replicate k x) = k * (f32Val x).toInt := by
  simp [unitsSum]

/-- Words with one value that is no NaN are one word. -/
theorem eq_of_f32Val_eq {v w : Word} (h : f32Val v = f32Val w) (hw : f32Val w ≠ .nan) : v = w := by
  have nan : NaNWord := default
  rw [← wordOfFloat_f32Val nan hw, ← h, wordOfFloat_f32Val nan (h ▸ hw)]

/-- Settles O57: the partial sums are multiples of the word's value, so the mean is exact, and a non-zero value has one word. -/
theorem defaultMeanOfConstant : Obligations.DefaultMeanOfConstant := by
  intro x n m neg h1 hle hx hm hrep hlt
  have hunits : (f32Val x).toInt.natAbs = m := by rw [hx, toInt_finite_natAbs]
  have hprefix : ∀ k ≤ n, Representable (unitsSum ((List.replicate n x).take k)).natAbs ∧
      (unitsSum ((List.replicate n x).take k)).natAbs < overflowUnits := by
    intro k hk
    rw [List.take_replicate, min_eq_left hk, unitsSum_replicate, Int.natAbs_mul, Int.natAbs_natCast, hunits]
    exact ⟨hrep k hk, (Nat.mul_le_mul_right m hk).trans_lt hlt⟩
  have hmean : (f32Val (mean32 .binary32 (List.replicate n x))).HasUnits (f32Val x).toInt := by
    refine defaultMeanIsExact _ (by simpa using h1) (by simpa using hle) (fun w hw => ?_)
      (fun k hk => hprefix k (by simpa using hk)) _ ?_ ?_
    · rw [List.eq_of_mem_replicate hw, hx]
      rfl
    · rw [List.length_replicate]
      exact unitsSum_replicate n x
    · rw [hunits]
      simpa using hrep 1 h1.le
  have hword : (f32Val x).HasUnits (f32Val x).toInt := ⟨by rw [hx]; rfl, rfl⟩
  exact eq_of_f32Val_eq (hmean.unique hword (by rwa [← Int.natAbs_ne_zero, hunits])) (by simp [hx])

/-! ### A sum that does not overflow -/

/-- Settles O58: the quotient is not above the sum's magnitude, which is itself that of a word. -/
theorem defaultMeanStaysFinite : Obligations.DefaultMeanStaysFinite := by
  intro ws h1 hle _ hsum
  rw [f32Val_mean32_of_le hle]
  have hformat := inFormat_floatSum ws
  obtain ⟨s, hs, -⟩ := FloatValue.hasUnits_iff.mp ⟨hsum, rfl⟩
  rw [hs] at hformat ⊢
  obtain ⟨hrep, hlt⟩ := hformat
  have hpos : 0 < ws.length * 2 ^ 149 := Nat.mul_pos (by omega) (by positivity)
  have hquot : roundUnits ((floatSum ws).toInt.natAbs * 2 ^ 149) (ws.length * 2 ^ 149) ≤ (floatSum ws).toInt.natAbs := by
    refine roundUnits_le hpos hrep ?_
    rw [Nat.mul_comm]
    exact Nat.mul_le_mul_right _ (Nat.le_mul_of_pos_left _ (by omega))
  rw [fdiv32_finite _ _ _ hpos.ne', roundFloat_of_lt (hquot.trans_lt hlt)]
  rfl

/-! ### Infinities and NaNs -/

theorem fadd32_nan_left (v : FloatValue) : fadd32 .nan v = .nan := rfl

theorem fadd32_nan_right (v : FloatValue) : fadd32 v .nan = .nan := by cases v <;> rfl

/-- An infinity added to anything is itself or a NaN. -/
theorem fadd32_infinity_right (v : FloatValue) (b : Bool) :
    fadd32 v (.infinity b) = .nan ∨ fadd32 v (.infinity b) = .infinity b := by
  cases v with
  | nan => exact .inl rfl
  | infinity a =>
    by_cases hab : a = b
    · exact .inr (by rw [fadd32, if_pos hab, hab])
    · exact .inl (by rw [fadd32, if_neg hab])
  | finite a m => exact .inr rfl

/-- Only a NaN or the other infinity moves a sum away from an infinity. -/
theorem fadd32_infinity_left {v : FloatValue} {a : Bool} (hnan : v ≠ .nan) (hinf : v ≠ .infinity (!a)) :
    fadd32 (.infinity a) v = .infinity a := by
  cases v with
  | nan => exact absurd rfl hnan
  | infinity b =>
    have hab : a = b := by
      by_contra hne
      exact hinf (congrArg FloatValue.infinity (Bool.eq_not_iff.mpr (Ne.symm hne)))
    rw [fadd32, if_pos hab]
  | finite b m => rfl

theorem fadd32_infinity_left_cases (v : FloatValue) (a : Bool) :
    fadd32 (.infinity a) v = .nan ∨ fadd32 (.infinity a) v = .infinity a := by
  by_cases hnan : v = .nan
  · exact .inl (by rw [hnan, fadd32_nan_right])
  · by_cases hinf : v = .infinity (!a)
    · exact .inl (by rw [hinf, fadd32, if_neg (by simp)])
    · exact .inr (fadd32_infinity_left hnan hinf)

/-- The sum of a lane with a NaN is a NaN (R204). -/
theorem floatSum_of_nan {ws : List Word} (h : ∃ w ∈ ws, f32Val w = .nan) : floatSum ws = .nan := by
  obtain ⟨w, hw, hnan⟩ := h
  obtain ⟨l, r, rfl⟩ := List.append_of_mem hw
  rw [← List.singleton_append, ← List.append_assoc]
  refine floatSum_append_induction (P := (· = .nan)) ?_ fun acc hacc v _ => ?_
  · rw [floatSum_concat, hnan, fadd32_nan_right]
  · rw [hacc, fadd32_nan_left]

/-- The sum of a lane with an infinity is a NaN or that infinity (R204). -/
theorem floatSum_of_infinity {ws : List Word} {b : Bool} (h : ∃ w ∈ ws, f32Val w = .infinity b) :
    floatSum ws = .nan ∨ floatSum ws = .infinity b := by
  obtain ⟨w, hw, hinf⟩ := h
  obtain ⟨l, r, rfl⟩ := List.append_of_mem hw
  rw [← List.singleton_append, ← List.append_assoc]
  refine floatSum_append_induction (P := fun v => v = .nan ∨ v = .infinity b) ?_ fun acc hacc v _ => ?_
  · rw [floatSum_concat, hinf]
    exact fadd32_infinity_right _ b
  · rcases hacc with rfl | rfl
    · exact .inl (fadd32_nan_left _)
    · exact fadd32_infinity_left_cases _ b

theorem roundFloat_ne_nan (negative : Bool) (p q : Nat) : roundFloat negative p q ≠ .nan := by
  unfold roundFloat
  split <;> simp

/-- A finite term makes no NaN. -/
theorem fadd32_ne_nan {x y : FloatValue} (hx : x ≠ .nan) (hy : y.isFinite = true) : fadd32 x y ≠ .nan := by
  obtain ⟨b, hb, -⟩ := FloatValue.hasUnits_iff.mp ⟨hy, rfl⟩
  rw [hb]
  cases x with
  | nan => exact absurd rfl hx
  | infinity a => simp [fadd32]
  | finite a m =>
    rw [fadd32_finite a b m _ rfl]
    split
    · simp
    · exact roundFloat_ne_nan _ _ _

theorem floatSum_ne_nan {ws : List Word} (hfin : ∀ w ∈ ws, (f32Val w).isFinite = true) : floatSum ws ≠ .nan :=
  floatSum_induction (P := (· ≠ .nan)) (by simp) fun _ hacc w hw => fadd32_ne_nan hacc (hfin w hw)

theorem eq_infinity_of_not_finite {v : FloatValue} {neg : Bool} (hv : v ≠ .nan ∧ v ≠ .infinity (!neg))
    (h : v.isFinite = false) : v = .infinity neg := by
  obtain ⟨hnan, hother⟩ := hv
  cases v with
  | nan => exact absurd rfl hnan
  | infinity a =>
    rw [← Bool.not_not neg]
    exact congrArg FloatValue.infinity (Bool.eq_not_iff.mpr fun ha => hother (ha ▸ rfl))
  | finite s m => simp [FloatValue.isFinite] at h

theorem fadd32_finite_infinity {v : FloatValue} (h : v.isFinite = true) (b : Bool) :
    fadd32 v (.infinity b) = .infinity b := by
  cases v with
  | nan => simp [FloatValue.isFinite] at h
  | infinity a => simp [FloatValue.isFinite] at h
  | finite s m => rfl

/-- A list up to, at and after the first element that fails a test. -/
theorem exists_first_not {α : Type} {p : α → Bool} {l : List α} (h : ∃ x ∈ l, p x = false) :
    ∃ x r, l = l.takeWhile p ++ [x] ++ r ∧ p x = false := by
  have hsplit := List.takeWhile_append_dropWhile (p := p) (l := l)
  have hhead := List.head?_dropWhile_not p l
  cases hd : l.dropWhile p with
  | nil =>
    obtain ⟨x, hx, hpx⟩ := h
    simp [List.dropWhile_eq_nil_iff.mp hd x hx] at hpx
  | cons x r =>
    rw [hd] at hsplit hhead
    exact ⟨x, r, by rw [List.append_assoc, List.singleton_append, hsplit], hhead⟩

/-- An infinity of one sign, with no NaN and no infinity of the other, after finite words with a finite sum: the sum is that
infinity (R204). -/
theorem floatSum_of_one_infinity {ws : List Word} {neg : Bool} (hinf : ∃ w ∈ ws, f32Val w = .infinity neg)
    (hws : ∀ w ∈ ws, f32Val w ≠ .nan ∧ f32Val w ≠ .infinity (!neg))
    (hfin : (floatSum (ws.takeWhile fun w => (f32Val w).isFinite)).isFinite = true) : floatSum ws = .infinity neg := by
  obtain ⟨x, hx, hval⟩ := hinf
  obtain ⟨w, r, hsplit, hnot⟩ := exists_first_not (p := fun w => (f32Val w).isFinite) ⟨x, hx, by rw [hval]; rfl⟩
  have hw : f32Val w = .infinity neg := eq_infinity_of_not_finite (hws w (hsplit ▸ by simp)) hnot
  rw [hsplit]
  refine floatSum_append_induction (P := (· = .infinity neg)) ?_ fun acc hacc v hv => ?_
  · rw [floatSum_concat, hw]
    exact fadd32_finite_infinity hfin neg
  · obtain ⟨hnan, hother⟩ := hws v (hsplit ▸ List.mem_append_right _ hv)
    rw [hacc, fadd32_infinity_left hnan hother]

theorem f32Val_zero : f32Val 0x00000000 = .finite false 0 := f32Val_of_zero (by decide) (by decide)

theorem f32Val_negative_zero : f32Val 0x80000000 = .finite true 0 := f32Val_of_zero (by decide) (by decide)

/-- The sum starts at `+0.0` and stays there while `-0.0` is added (R196, R204). -/
theorem floatSum_of_negative_zeros {ws : List Word} (h : ∀ w ∈ ws, w = 0x80000000) : floatSum ws = .finite false 0 := by
  refine floatSum_induction (P := (· = .finite false 0)) rfl fun acc hacc w hw => ?_
  rw [hacc, h w hw, f32Val_negative_zero]
  rfl

/-! ### The statement -/

theorem f32Val_mean32_of_nan {ws : List Word} (h : floatSum ws = .nan) : f32Val (mean32 .binary32 ws) = .nan := by
  rw [f32Val_mean32, h]
  rfl

theorem f32Val_mean32_of_infinity {ws : List Word} {neg : Bool} (hle : ws.length ≤ 2 ^ 24) (h : floatSum ws = .infinity neg) :
    f32Val (mean32 .binary32 ws) = .infinity neg := by
  rw [f32Val_mean32_of_le hle, h, fdiv32, Bool.bne_false]

/-- Settles O59: each case is one of the running sum, and the division keeps it. -/
theorem defaultMeanSpecials : Obligations.DefaultMeanSpecials := by
  intro ws h1 hle
  refine ⟨fun h => f32Val_mean32_of_nan (floatSum_of_nan h), fun hpos hneg => f32Val_mean32_of_nan ?_,
    fun neg hinf hws hfin => f32Val_mean32_of_infinity hle (floatSum_of_one_infinity hinf hws hfin), fun hfin hover => ?_,
    fun hzero => ?_⟩
  · rcases floatSum_of_infinity hpos with h | h
    · exact h
    · rcases floatSum_of_infinity hneg with h' | h'
      · exact h'
      · simp [h] at h'
  · cases hsum : floatSum ws with
    | nan => exact absurd hsum (floatSum_ne_nan hfin)
    | infinity neg => exact ⟨neg, f32Val_mean32_of_infinity hle hsum⟩
    | finite s m => simp [hsum, FloatValue.isFinite] at hover
  · have hpos : 0 < ws.length * 2 ^ 149 := Nat.mul_pos (by omega) (by positivity)
    refine eq_of_f32Val_eq ?_ (by rw [f32Val_zero]; simp)
    rw [f32Val_mean32_of_le hle, floatSum_of_negative_zeros hzero, fdiv32_finite _ _ _ hpos.ne', Nat.zero_mul,
      roundFloat_zero _ hpos, f32Val_zero]
    rfl

end Sys2Proof.Machine
end
